-- ==== Sys2Proof/Word.lean ====
section
/-! DEFINITION. The word types of the block (spec/00_scope.md rule R8). -/

namespace Sys2Proof

/-- A byte: 8 bits, bit 7 the most significant (rule R8). -/
abbrev Byte := BitVec 8

/-- A UDP port number, 16 bits (rule R21). -/
abbrev Port := BitVec 16

end Sys2Proof
end

