-- ==== Sys2Proof/Config.lean ====
section
/-! DEFINITION. The implementation parameters of spec/00_scope.md rule R6 that are plain data, each with its source value as
default, and the free values the spec leaves OPEN. The parameters that are functions or tables (FWD_POWER_W,
RUN_FLAGS_ENCODE, RC_UPDATE_GUARD, FIELD_TABLES) stand with the machine, in Machine/Params.lean. -/

namespace Sys2Proof

/-- FWD_BREAKPOINTS, b1 to b6 (spec/44_numeric.md rule R274, constraint 1). -/
structure Breakpoints where
  b1 : Nat := 98
  b2 : Nat := 874
  b3 : Nat := 1380
  b4 : Nat := 2095
  b5 : Nat := 2615
  b6 : Nat := 3038
  deriving DecidableEq, Repr

/-- The source literals, named arguments of the model with the source's values as defaults (rule R6;
spec/92_eei_decisions.md, Open parameters; spec/93_implementation_defined.md I23; log 25). -/
structure Literals where
  /-- MAX_LEN, the largest datagram length (decision D31). -/
  maxLen : Nat := 65535
  /-- SUBFRAME_LEN. -/
  subframeLen : Nat := 512
  /-- SAMPLE_BLOCK_LEN. -/
  sampleBlockLen : Nat := 504
  /-- SYNC_MARKER, three bytes. -/
  syncMarker : List Byte := [0x7F#8, 0x7F#8, 0x7F#8]
  /-- H2D_TYPE_MASK. -/
  h2dTypeMask : Byte := 0xFE#8
  /-- D2H_TYPE_MASK. -/
  d2hTypeMask : Byte := 0xF8#8
  /-- ADC_VREF, in volts (rule R270). -/
  adcVref : Rat := 33 / 10
  /-- ADC_FULL, the full-scale code. -/
  adcFull : Nat := 4095
  /-- BRIDGE_DEN. -/
  bridgeDen : Rat := 9 / 100
  /-- REV_OFFSET. -/
  revOffset : Nat := 10
  /-- DIV_RATIO = (4.7 + 0.82) / 0.82. -/
  divRatio : Rat := (47 / 10 + 82 / 100) / (82 / 100)
  /-- HANG_OFFSET. -/
  hangOffset : Int := 10
  /-- FWD_BREAKPOINTS. -/
  fwdBreakpoints : Breakpoints := {}
  /-- The nominal pad of a StartStop datagram (I23; spec/40_datagram.md rule R124). -/
  startstopPad : Nat := 60
  /-- The nominal pad of a Discovery query (I23; rule R120). -/
  queryPad : Nat := 60
  /-- The nominal pad of a Discovery reply (I23; rule R121). -/
  replyPad : Nat := 49
  /-- The nominal pad of a Hermes_Lite reply (I23; rule R122). -/
  replyHlPad : Nat := 40
  /-- The nominal pad of a SetIp datagram (I23; rule R123). -/
  setipPad : Nat := 8
  deriving DecidableEq, Repr

/-- The literals under which the encoding rules make sense: the marker fills the 3-byte window (spec/41_endpoint_frame.md
rule R152), a type mask leaves out the flag bits of C0 (spec/30_encoding.md rules R77 and R78), and the forward-power
segments follow one another (rule R274).
DESIGN CHOICE (log 25): spec/30_encoding.md rule R76 adds the lengths up as 3 + 5 + 504 = 512 and leaves open how they relate
at other values; here SUBFRAME_LEN is 8 + SAMPLE_BLOCK_LEN, and SAMPLE_BLOCK_LEN holds whole Host→Device tuples of 8 bytes, so
that the fields fill the sub-frame and CUR does not pass L. -/
def Literals.admitted (l : Literals) : Bool :=
  l.subframeLen == 8 + l.sampleBlockLen && l.sampleBlockLen % 8 == 0 && l.syncMarker.length == 3 &&
    l.h2dTypeMask &&& 0x01#8 == 0#8 && l.d2hTypeMask &&& 0x07#8 == 0#8 &&
    decide (l.fwdBreakpoints.b1 < l.fwdBreakpoints.b2) && decide (l.fwdBreakpoints.b2 < l.fwdBreakpoints.b3) &&
    decide (l.fwdBreakpoints.b3 < l.fwdBreakpoints.b4) && decide (l.fwdBreakpoints.b4 < l.fwdBreakpoints.b5) &&
    decide (l.fwdBreakpoints.b5 < l.fwdBreakpoints.b6) && decide (l.fwdBreakpoints.b6 < l.adcFull)

namespace Config

/-- The literals at the source's values, for which `exec` and `step` are the machine. -/
def literals : Literals := {}

/-- WELL_KNOWN_PORT is OPEN; this is the spec's default [general knowledge], the reset value of the State field that
holds the parameter (log 7). -/
def wellKnownPortDefault : Port := 1024#16

/-- PROTOCOL_MAGIC [general knowledge]: never read by the block (rule R111). -/
def protocolMagic : BitVec 16 := 0xEFFE#16

/-- FWD_POWER_W is OPEN (rule R274, log 8). Free value: the increments of the low codes before their sign is dropped. -/
opaque fwdLow : Nat → Rat

/-- Free value: the slopes of the six segments, before sign and distinctness are settled (log 8). -/
opaque fwdSlope : Nat → Rat

/-- Free value: the forward power of the codes above ADC_FULL, under no constraint (rule R276, log 8). -/
opaque fwdHigh : Nat → Rat

end Config

end Sys2Proof
end

