-- ==== Sys2Proof/Syntax.lean ====
section
/-! DEFINITION. The instructions: one constructor per row of spec/opcode_table.json. The block's instructions are the
selector values it dispatches on (spec/30_encoding.md, opening); an operand is a bit of the selector word itself. Every
other operand is a byte of the datagram, read by the meaning. -/

namespace Sys2Proof

/-- The selector maps of spec/30_encoding.md. A selector word has a meaning only in its map: the byte 02 is ST_DISCOVERY,
EP2_H2D or H2D_TX_FREQ. The Discovery dispatch (40_datagram.md rule R119) is two maps, told apart by DST_PORT. -/
inductive SelMap
  | status      -- DG[2], rule R71
  | endpoint    -- DG[3], rule R73
  | discQuery   -- no selector byte: DST_PORT = WELL_KNOWN_PORT, rule R79
  | discReply   -- DG[10], rule R80
  | h2dControl  -- C0, rule R91
  | d2hControl  -- C0, rule R92
  | h2dSamples  -- no selector, rule R93
  | d2hSamples  -- RC, rule R93
  deriving DecidableEq, Repr

/-- Why the decoder answers no instruction. -/
inductive DecodeError
  /-- The map reads a selector byte and the word is empty. -/
  | noSelectorByte
  deriving DecidableEq, Repr

/-- One constructor per row of spec/opcode_table.json, in the table's order. `mox` is C0 bit 0 of a Host→Device record
(rule R77); `dot`, `dash`, `ptt` are C0 bits 2, 1, 0 of a Device→Host record (rule R78). -/
inductive Instr
  -- status map, rule R71
  | stData
  | stDiscovery
  | stSetip
  | stStartstop
  | stUnknown (status : Byte)
  -- endpoint map, rule R73
  | ep2H2d
  | ep4Raw
  | ep6D2h
  | epUnknown (ep : Byte)
  -- Discovery maps, rules R119 to R122
  | discQuery
  | discReply (board : Byte)
  | discReplyHl
  -- Host→Device control map, rule R91
  | h2dConfig (mox : Bool)
  | h2dTxFreq (mox : Bool)
  | h2dRx1Freq (mox : Bool)
  | h2dRx2Freq (mox : Bool)
  | h2dRx3Freq (mox : Bool)
  | h2dRx4Freq (mox : Bool)
  | h2dRx5Freq (mox : Bool)
  | h2dRx6Freq (mox : Bool)
  | h2dRx7Freq (mox : Bool)
  | h2dDriveFilters (mox : Bool)
  | h2dPreampMicAdc1 (mox : Bool)
  | h2dAdc23Keyer (mox : Bool)
  | h2dMercury1Rsvd (mox : Bool)
  | h2dMercury2Rsvd (mox : Bool)
  | h2dAdcAssign (mox : Bool)
  | h2dCwSidetonePtt (mox : Bool)
  | h2dCwHangTone (mox : Bool)
  | h2dPwm (mox : Bool)
  | h2dUnknown (sel : BitVec 7) (mox : Bool)
  -- Device→Host control map, rule R92
  | d2hInfo (dot dash ptt : Bool)
  | d2hFwdPower (dot dash ptt : Bool)
  | d2hRevPower (dot dash ptt : Bool)
  | d2hSupply (dot dash ptt : Bool)
  | d2hAdcOverflow (dot dash ptt : Bool)
  | d2hUnknown (sel : BitVec 5) (dot dash ptt : Bool)
  -- sample-block layouts, rules R93 and R300
  | sbH2d
  | sbD2hBlob
  | sbD2hOne
  | sbD2hMulti (n : Nat)
  deriving DecidableEq, Repr

/-- The map an instruction's selector word is read in. -/
def Instr.selMap : Instr → SelMap
  | .stData | .stDiscovery | .stSetip | .stStartstop | .stUnknown _ => .status
  | .ep2H2d | .ep4Raw | .ep6D2h | .epUnknown _ => .endpoint
  | .discQuery => .discQuery
  | .discReply _ | .discReplyHl => .discReply
  | .h2dConfig _ | .h2dTxFreq _ | .h2dRx1Freq _ | .h2dRx2Freq _ | .h2dRx3Freq _ | .h2dRx4Freq _ | .h2dRx5Freq _
  | .h2dRx6Freq _ | .h2dRx7Freq _ | .h2dDriveFilters _ | .h2dPreampMicAdc1 _ | .h2dAdc23Keyer _ | .h2dMercury1Rsvd _
  | .h2dMercury2Rsvd _ | .h2dAdcAssign _ | .h2dCwSidetonePtt _ | .h2dCwHangTone _ | .h2dPwm _ | .h2dUnknown _ _ =>
    .h2dControl
  | .d2hInfo _ _ _ | .d2hFwdPower _ _ _ | .d2hRevPower _ _ _ | .d2hSupply _ _ _ | .d2hAdcOverflow _ _ _
  | .d2hUnknown _ _ _ _ => .d2hControl
  | .sbH2d => .h2dSamples
  | .sbD2hBlob | .sbD2hOne | .sbD2hMulti _ => .d2hSamples

end Sys2Proof
end

