-- ==== Sys2Proof/Machine/State.lean ====
section
/-! DEFINITION. The machine's state as plain data, its outputs, its fatal errors and its stops
(spec/10_state.md, spec/60_exceptions.md). -/

namespace Sys2Proof.Machine

/-- The identifiers of the decoded fields (rule R29), spelled as the rules spell them; a numbered family such as
`rx1_freq_hz` .. `rx7_freq_hz` is one constructor that carries the number (log 22). `fieldText` gives the spec's spelling. -/
inductive FieldName
  -- 40_datagram.md
  | protocol_id | status | endpoint | sequence | ep4_sample (i : Nat) | pad
  | discovery_query | hw_address | version | board_id | hl_version_string
  | mac | ipv4 | iq_stream | wideband_stream
  -- 41_endpoint_frame.md
  | sync | c0_type | mox | ptt | dash | dot
  -- 42_control_h2d.md, record 0x00
  | speed | ref_10mhz_source | ref_122mhz_source | config | mic_source | mode | oc_output (i : Nat)
  | preselector_attenuator | preamp | if_dither | if_random | preselector_antenna | preselector_rx_out
  | tx_relay | duplex | receiver_count | mic_timestamp | common_mercury_freq
  -- records 0x02 .. 0x10
  | tx_freq_hz | rx_freq_hz (r : Nat)
  -- record 0x12
  | drive_level | mic_boost | mic_line_in | apollo_filter | apollo_tuner | apollo_auto_tune | filter_board_select
  | manual_filter_select | vna_mode | hpf_13mhz | hpf_20mhz | hpf_9_5mhz | hpf_6_5mhz | hpf_1_5mhz | hpf_bypass
  | lna_6m | tr_relay_disable | lpf_30_20m | lpf_60_40m | lpf_80m | lpf_160m | lpf_6m | lpf_12_10m | lpf_17_15m
  -- records 0x14, 0x16 and 0x1C; `c_bit n k` is the positional name cN_bitK
  | c_bit (n k : Nat) | rx_preamp (r : Nat) | orion_mic_tip_ring | orion_mic_bias | orion_mic_ptt | codec_line_gain
  | puresignal | open_drain (i : Nat) | adc_attenuation (n : Nat) | adc_attenuation_enable (n : Nat)
  | cw_reversed | cw_keyer_speed | cw_keyer_mode | cw_keyer_weight | cw_keyer_spacing
  | rx_adc (r : Nat) | tx_adc_attenuation
  -- records 0x18, 0x1A, 0x1E, 0x20, 0x22 and the reserved arm
  | mercury_reserved (n : Nat) | cw_source | sidetone_volume | ptt_delay_ms | cw_hang_time | cw_sidetone_freq
  | pwm_min | pwm_max | control_raw
  -- 43_control_d2h.md; `adc_unit_overflow i` is adcI_overflow, `adc_unit_version i` is adcI_version
  | adc_overflow | hermes_io (i : Nat) | pll_locked | freq_changed | mercury_version | penelope_version
  | interface_version | forward_power_w | forward_power_2_w | reverse_power_w | ain3 | ain4 | supply_volts
  | adc_unit_overflow (i : Nat) | adc_unit_version (i : Nat)
  -- 45_sample_blocks.md
  | left (t : Nat) | right (t : Nat) | i (t : Nat) | q (t : Nat) | samples_raw
  | rx_i (r t : Nat) | rx_q (r t : Nat) | mic (t : Nat)
  /-- A name that a FIELD_TABLES other than the default one may give (rule R201). -/
  | tableName (id : Nat)
  deriving DecidableEq, Repr

/-- The value kinds of a decoded field (00_scope.md rule R12). -/
inductive Value
  | uint (v : Nat)
  | sint (v : Int)
  | bool (b : Bool)
  | enum (v : Nat)
  | bytes (bs : List Byte)
  | ver (tens ones : Nat)
  | real (q : Rat)
  | marker
  deriving DecidableEq, Repr

/-- The diagnostics (rules R30, R336, R337). -/
inductive DiagKind
  | lateSync
  | extraBytes
  deriving DecidableEq, Repr

/-- An item of OUT: a decoded field (rule R29) or a diagnostic (rule R30). -/
inductive Item
  | field (off len : Nat) (name : FieldName) (value : Value) (raw : List Byte)
  | diag (kind : DiagKind) (info off : Nat)
  deriving DecidableEq, Repr

/-- The fatal errors with their info (rule R31). -/
inductive Fatal
  | truncated (off n : Nat)
  | unknownStatus (status : Byte)
  | unknownEndpoint (ep : Byte)
  deriving DecidableEq, Repr

/-- RESULT (rule R31). -/
inductive Result
  | ok
  | fatal (e : Fatal)
  deriving DecidableEq, Repr

/-- The three configuration inputs (rule R22); `true` is 1. -/
structure Toggles where
  strictSize : Bool
  strictPad : Bool
  syncCheck : Bool
  deriving DecidableEq, Repr

/-- What the caller hands to the machine: the two transactions of rule R20, and a change of the configuration inputs
(rule R380). The length L of a DECODE is the number of its bytes. -/
inductive Request
  | decode (bytes : List Byte) (srcPort dstPort : Port)
  | reset
  | configure (t : Toggles)
  deriving DecidableEq, Repr

/-- Which selector the block reads next; `idle` between transactions (rule R346). The model's own field: it stands for
the place in the pseudocode of rule R110 that a DECODE in progress has reached (log 1). -/
inductive Phase
  | idle
  | status
  | endpoint
  | discovery
  | h2dControl
  | h2dSamples
  | d2hControl
  | d2hSamples
  deriving DecidableEq, Repr

/-- DIR (rule R33). -/
inductive Dir
  | h2d
  | d2h
  deriving DecidableEq, Repr

/-- SLOT, 1 or 2 (rule R33). -/
inductive Slot
  | one
  | two
  deriving DecidableEq, Repr

/-- The input buffer's contents: cells with strictly rising addresses, none of them zero; an address that is not listed
reads as zero (log 11). The length L is kept beside it. -/
abbrev Memory := List Host.Cell

/-- The whole state of one instance. -/
structure State where
  /-- RC, receiver count (rule R23). -/
  rc : BitVec 4
  /-- RF, run flags: bit 0 START, bit 1 IQ, bit 2 WB (rule R26). -/
  rf : BitVec 3
  /-- The instance has received RESET (rule R372). The model's own field (log 13). -/
  initialised : Bool
  /-- STRICT_SIZE, STRICT_PAD and SYNC_CHECK as the caller holds them (rule R22). -/
  inputs : Toggles
  /-- The same inputs as sampled when the DECODE in progress started (rules R22 and R380). -/
  sampled : Toggles
  /-- The OPEN parameter WELL_KNOWN_PORT (rule R6). No rule writes it (log 7). -/
  wellKnownPort : Port
  /-- The caller's transactions that have not started, oldest first (rule R61). The model's own field (log 2). -/
  pending : List Request
  /-- Where the DECODE in progress stands. The model's own field (log 1). -/
  phase : Phase
  /-- DG, the datagram buffer (rule R50). -/
  dg : Memory
  /-- L, the captured length (rule R21). -/
  len : Nat
  /-- SRC_PORT (rule R21). -/
  srcPort : Port
  /-- DST_PORT (rule R21). -/
  dstPort : Port
  /-- CUR, the cursor (rule R28). -/
  cur : Nat
  /-- SKIP, the sync-recovery skip counter (rule R33). -/
  skip : Nat
  /-- DIR (rule R33). -/
  dir : Dir
  /-- SLOT (rule R33). -/
  slot : Slot
  /-- C0, the first control byte (rule R33). -/
  c0 : Byte
  /-- C0M, C0 under its direction's mask (rule R33). -/
  c0m : Byte
  /-- P, the sub-frame base offset (rule R33). -/
  p : Nat
  /-- OUT (rule R32). -/
  out : List Item
  /-- RESULT (rule R31); none before the first DECODE and while one is in progress. -/
  result : Option Result
  deriving DecidableEq, Repr

/-- The reasons the machine could stop with a fault: none. Every error the spec describes ends the DECODE with
RESULT = FATAL (rule R340), which is a next state of the machine. -/
inductive Fault
  deriving DecidableEq, Repr

/-- The reasons a step has no meaning. Each is safe: the model stops, and claims nothing. -/
inductive Refusal
  /-- Raised by `exec` for an instruction that has no meaning yet; no arm raises it. Safe. -/
  | notModelled (mnemonic : String)
  /-- Raised by `step` if a fetched selector word is no instruction; no fetch gives such a word. Safe. -/
  | undecodable (e : DecodeError)
  /-- Raised by `start`: a DECODE on an instance that has not received RESET is outside the model (rule R372). Safe. -/
  | decodeBeforeReset
  /-- Raised by `start`: a transaction that overlaps another on the same instance is outside the model (rule R351). Safe. -/
  | overlappingTransaction
  /-- Raised by `start`: L is in 0..MAX_LEN (rule R21); a longer datagram is no input of DECODE. Safe. -/
  | datagramTooLong
  deriving DecidableEq, Repr

/-- The machine right after RESET (rules R38 and R370): RC, RF, the configuration inputs, OUT and RESULT as the spec
states; WELL_KNOWN_PORT at the spec's default (log 7); the transient registers, for which the spec states none, at the
values of log 4. -/
def State.reset : State where
  rc := 0#4
  rf := 0#3
  initialised := true
  inputs := ⟨true, true, true⟩
  sampled := ⟨true, true, true⟩
  wellKnownPort := Config.wellKnownPortDefault
  pending := []
  phase := .idle
  dg := []
  len := 0
  srcPort := 0#16
  dstPort := 0#16
  cur := 0
  skip := 0
  dir := .h2d
  slot := .one
  c0 := 0#8
  c0m := 0#8
  p := 0
  out := []
  result := none

end Sys2Proof.Machine
end

