-- ==== Sys2Proof/Machine/Numeric.lean ====
section
/-! DEFINITION. The numeric conversion unit: pure functions from a raw ADC code in 0..65535 to an exact rational
(spec/44_numeric.md). -/

namespace Sys2Proof.Machine

/-- VOLTS(c) (rule R271) for any values of the literals. -/
def voltsWith (l : Literals) (c : Nat) : Rat := (c : Rat) * l.adcVref / (l.adcFull : Rat)

/-- VOLTS(c) (rule R271). -/
def volts (c : Nat) : Rat := voltsWith Config.literals c

/-- BRIDGE_W(c) (rule R272) for any values of the literals. -/
def bridgeWWith (l : Literals) (c : Nat) : Rat := voltsWith l c * voltsWith l c / l.bridgeDen

/-- BRIDGE_W(c) (rule R272). -/
def bridgeW (c : Nat) : Rat := bridgeWWith Config.literals c

/-- REV_W(c) (rule R273) for any values of the literals: natural subtraction is max(c - REV_OFFSET, 0). -/
def revWWith (l : Literals) (c : Nat) : Rat := bridgeWWith l (c - l.revOffset)

/-- REV_W(c) (rule R273). -/
def revW (c : Nat) : Rat := revWWith Config.literals c

/-- SUPPLY_V(c) (rule R275) for any values of the literals. -/
def supplyVWith (l : Literals) (c : Nat) : Rat := voltsWith l c * l.divRatio

/-- SUPPLY_V(c) (rule R275). -/
def supplyV (c : Nat) : Rat := supplyVWith Config.literals c

/-- A free rational with its sign dropped. -/
def magnitude (x : Rat) : Rat := if x < 0 then -x else x

/-- The low codes of a forward-power function: a running sum of non-negative increments (rule R274, constraints 4 to 6). -/
def fwdLowValue (low : Nat → Rat) : Nat → Rat
  | 0 => magnitude (low 0)
  | c + 1 => fwdLowValue low c + magnitude (low (c + 1))

/-- The slope m of segment k: non-negative, and different from the slope before it (rule R274, constraints 2 and 4). -/
def fwdSlopeOf (slope : Nat → Rat) : Nat → Rat
  | 0 => magnitude (slope 0)
  | k + 1 => if magnitude (slope (k + 1)) = fwdSlopeOf slope k then magnitude (slope (k + 1)) + 1 else magnitude (slope (k + 1))

/-- The breakpoint that opens segment k, 0 to 5 (rule R274, constraint 1). -/
def breakpointOf (b : Breakpoints) : Nat → Nat
  | 0 => b.b1
  | 1 => b.b2
  | 2 => b.b3
  | 3 => b.b4
  | 4 => b.b5
  | _ => b.b6

/-- The value at the breakpoint that opens segment k: continuous (rule R274, constraint 3). -/
def fwdBase (b : Breakpoints) (low slope : Nat → Rat) : Nat → Rat
  | 0 => fwdLowValue low (breakpointOf b 0)
  | k + 1 => fwdBase b low slope k + fwdSlopeOf slope k * ((breakpointOf b (k + 1) : Rat) - (breakpointOf b k : Rat))

/-- The segment, 0 to 5, that serves a code from b1 on (rule R274, constraint 2). -/
def fwdSegment (b : Breakpoints) (c : Nat) : Nat :=
  if c ≤ b.b2 then 0 else if c ≤ b.b3 then 1 else if c ≤ b.b4 then 2 else if c ≤ b.b5 then 3 else if c ≤ b.b6 then 4 else 5

/-- The forward-power function that three unconstrained functions give: whatever they are it meets the constraints of rule
R274, and every function that meets them is one of these (log 8). -/
def fwdPowerFromWith (l : Literals) (low slope high : Nat → Rat) (c : Nat) : Rat :=
  if c < l.fwdBreakpoints.b1 then fwdLowValue low c
  else if c ≤ l.adcFull then
    fwdBase l.fwdBreakpoints low slope (fwdSegment l.fwdBreakpoints c)
      + fwdSlopeOf slope (fwdSegment l.fwdBreakpoints c)
        * ((c : Rat) - (breakpointOf l.fwdBreakpoints (fwdSegment l.fwdBreakpoints c) : Rat))
  else high c

/-- The forward-power functions of the source's breakpoints. -/
def fwdPowerFrom (low slope high : Nat → Rat) (c : Nat) : Rat := fwdPowerFromWith Config.literals low slope high c

/-- FWD_POWER_W(c), the OPEN parameter (rule R274), at a free value (log 8). -/
def fwdPowerW (c : Nat) : Rat := fwdPowerFrom Config.fwdLow Config.fwdSlope Config.fwdHigh c

/-- The last code of segment k: the next breakpoint, or ADC_FULL (rule R274, constraint 2). -/
def segmentEnd (l : Literals) (k : Nat) : Nat := if k = 5 then l.adcFull else breakpointOf l.fwdBreakpoints (k + 1)

/-- What rule R274 asks of a value `f` of FWD_POWER_W: affine on the closed segments, neighbours with different slopes
(continuity follows, since neighbours share their breakpoint), non-decreasing and non-negative up to ADC_FULL. -/
def forwardPowerAdmitted (l : Literals) (f : Nat → Rat) : Prop :=
  (∃ m k : Nat → Rat, (∀ j < 5, m j ≠ m (j + 1)) ∧
    ∀ j ≤ 5, ∀ c, breakpointOf l.fwdBreakpoints j ≤ c → c ≤ segmentEnd l j → f c = m j * (c : Rat) + k j) ∧
  (∀ c < l.adcFull, f c ≤ f (c + 1)) ∧ (∀ c ≤ l.adcFull, 0 ≤ f c)

end Sys2Proof.Machine
end

