-- ==== Sys2Proof/Machine/Operands.lean ====
section
/-! DEFINITION. Field assembly: how each field's value is made from its raw bytes (spec/30_encoding.md rules R85 to R90,
spec/00_scope.md rules R8 to R10). A layout is a list of `FieldSpec`. -/

namespace Sys2Proof.Machine

/-- BE: the bytes' unsigned value, the first most significant (rules R9 and R53). -/
def beNat : List Byte → Nat
  | [] => 0
  | b :: bs => b.toNat * 256 ^ bs.length + beNat bs

/-- sext_N: the N-bit value read as two's complement (rule R10). -/
def sext (nbits v : Nat) : Int := (BitVec.ofNat nbits v).toInt

/-- b[hi:lo] as an unsigned integer (rule R8). -/
def bitField (b : Byte) (hi lo : Nat) : Nat := b.toNat / 2 ^ lo % 2 ^ (hi + 1 - lo)

/-- b[i] as a boolean (rule R86). -/
def bitFlag (b : Byte) (i : Nat) : Bool := b.getLsbD i

/-- rec10(a, b) = (zext_10(a) << 2) | (b & 3) (rule R85). -/
def rec10 (a b : Byte) : Nat := ((a.setWidth 10 <<< 2) ||| (b &&& 3#8).setWidth 10).toNat

/-- How a field's value is assembled from its raw bytes. -/
inductive Kind
  | uint                            -- big-endian unsigned
  | sint                            -- big-endian two's complement at the field's width (rule R89)
  | enum                            -- unsigned selector value (rule R12)
  | bytes                           -- opaque (rule R12)
  | ver                             -- version byte (rule R90)
  | bits (hi lo : Nat)              -- b[hi:lo] of the field's byte (rule R86)
  | flag (i : Nat)                  -- b[i] of the field's byte (rule R86)
  | countField (hi lo : Nat)        -- b[hi:lo] + 1 (rule R87)
  | rec10                           -- rec10 of the two bytes (rule R85)
  | rec10Less (offset : Int)        -- rec10 minus an offset, signed (rule R198)
  | conversion (f : Nat → Rat)      -- a numeric conversion of a 2-byte code (rules R242 to R244)
  | given (v : Value)               -- an operand of the instruction, or a marker

/-- rec10 of a two-byte field; the empty bytes of any other width do not arise. -/
def rec10Of (raw : List Byte) : Nat := Sys2Proof.Machine.rec10 (raw.getD 0 0#8) (raw.getD 1 0#8)

/-- The value of a field of kind `k` whose raw bytes are `raw`. -/
def valueOf (k : Kind) (raw : List Byte) : Value :=
  match k with
  | .uint => .uint (beNat raw)
  | .sint => .sint (sext (8 * raw.length) (beNat raw))
  | .enum => .enum (beNat raw)
  | .bytes => .bytes raw
  | .ver => .ver (beNat raw / 10) (beNat raw % 10)
  | .bits hi lo => .uint (bitField (raw.getD 0 0#8) hi lo)
  | .flag i => .bool (bitFlag (raw.getD 0 0#8) i)
  | .countField hi lo => .uint (bitField (raw.getD 0 0#8) hi lo + 1)
  | .rec10 => .uint (rec10Of raw)
  | .rec10Less offset => .sint ((rec10Of raw : Int) - offset)
  | .conversion f => .real (f (beNat raw))
  | .given v => v

/-- One entry of a layout: `field(off, n, name, value)` of rule R11, its value given by its kind. -/
structure FieldSpec where
  off : Nat
  n : Nat
  name : FieldName
  kind : Kind

end Sys2Proof.Machine
end

