-- ==== Sys2Proof/Machine/Ops.lean ====
section
/-! DEFINITION. The shared operations: the input buffer, the bounds check, the output list, taking a fatal error, and the
start and end of a transaction (spec/20_memory.md, 40_datagram.md, 60_exceptions.md, 70_reset_and_hazards.md). -/

namespace Sys2Proof.Machine

/-- The byte a buffer holds at an address; an address that is not listed reads as zero (log 11). -/
def readByte (m : Memory) (a : Nat) : Byte :=
  match m with
  | [] => 0#8
  | (x, b) :: rest => if x = a then b else readByte rest a

/-- The buffer that holds the bytes `bs` from address `a` on, in canonical form. -/
def loadBytes (a : Nat) : List Byte → Memory
  | [] => []
  | b :: bs => if b = 0#8 then loadBytes (a + 1) bs else (a, b) :: loadBytes (a + 1) bs

/-- The canonical form above a bound: addresses at least `lo` and strictly rising, no cell zero. -/
def memoryWfFrom (lo : Nat) : Memory → Bool
  | [] => true
  | (a, b) :: rest => decide (lo ≤ a) && b != 0#8 && memoryWfFrom (a + 1) rest

/-- The canonical form of a buffer. -/
def Memory.wf (m : Memory) : Bool := memoryWfFrom 0 m

/-- Whether every cell lies below `len`. -/
def memoryBelow (len : Nat) (m : Memory) : Bool := m.all fun c => decide (c.1 < len)

/-- DG[a] (rule R9). Read only after a Need that covers it (rule R55). -/
def byteAt (s : State) (a : Nat) : Byte := readByte s.dg a

/-- Bytes(off, n) (rule R55). -/
def bytesAt (s : State) (off n : Nat) : List Byte := (List.range n).map fun k => byteAt s (off + k)

/-- BE(off, n) (rule R9). -/
def beAt (s : State) (off n : Nat) : Nat := beNat (bytesAt s off n)

/-- Taking a fatal error (rule R334), the block's only trap (rule R340): RESULT records it (its code and
info: `resultRecord`), OUT is discarded, CUR is dropped, and the block is idle. RC and RF keep the values written before it (rule R335). No return from it exists: the next
DECODE starts afresh (rule R341). -/
def raise (e : Fatal) (s : State) : State :=
  { s with result := some (.fatal e), out := [], cur := 0, phase := .idle }

/-- A part of a DECODE either goes on, or has ended the transaction in a fatal error. -/
inductive Run
  | go (s : State)
  | trap (s : State)
  deriving DecidableEq, Repr

/-- Go on with `f` unless the transaction has ended. -/
def Run.andThen (r : Run) (f : State → Run) : Run :=
  match r with
  | .go s => f s
  | .trap s => .trap s

/-- Either way the machine has a next state. -/
def Run.outcome : Run → Host.Outcome State Fault Refusal
  | .go s => .next s
  | .trap s => .next s

/-- Need(off, n) (rule R54). -/
def need (off n : Nat) (s : State) : Run :=
  if off + n > s.len then .trap (raise (.truncated off n) s) else .go s

/-- Append an item to OUT (rule R32). -/
def push (it : Item) (s : State) : State := { s with out := s.out ++ [it] }

/-- The decoded field of a layout entry (rule R29): its raw bytes are Bytes(off, len). -/
def fieldItem (s : State) (f : FieldSpec) : Item :=
  .field f.off f.n f.name (valueOf f.kind (bytesAt s f.off f.n)) (bytesAt s f.off f.n)

/-- field(off, n, name, value) (rule R11). -/
def emit (f : FieldSpec) (s : State) : Run :=
  (need f.off f.n s).andThen fun s => .go (push (fieldItem s f) s)

/-- The fields of a layout in order, each after its own Need (rule R54). -/
def emitAll : List FieldSpec → State → Run
  | [], s => .go s
  | f :: fs, s => (emit f s).andThen (emitAll fs)

/-- diag(kind, info, off) (rule R11). -/
def diag (kind : DiagKind) (info off : Nat) (s : State) : State := push (.diag kind info off) s

/-- CUR <- v, and the selector that is read next. -/
def goto (v : Nat) (ph : Phase) (s : State) : State := { s with cur := v, phase := ph }

/-- RC <- v (rule R24). -/
def setRc (v : BitVec 4) (s : State) : State := { s with rc := v }

/-- RF <- v (rule R27). -/
def setRf (v : BitVec 3) (s : State) : State := { s with rf := v }

/-- The length of a pad region (rule R118). -/
def padLength (s : State) (nominal : Nat) : Nat := if s.sampled.strictPad then nominal else 1

/-- PAD(off, nominal) (rule R118). -/
def padRegion (off nominal : Nat) (s : State) : Run :=
  (emit ⟨off, padLength s nominal, .pad, .bytes⟩ s).andThen fun t => .go (goto (off + padLength s nominal) t.phase t)

/-- HEADER (rule R111). -/
def header (s : State) : Run :=
  ((need 0 3 s).andThen (emitAll [⟨0, 2, .protocol_id, .uint⟩, ⟨2, 1, .status, .enum⟩])).andThen
    fun s => .go (goto 3 s.phase s)

/-- EXTRA_BYTES_CHECK (rule R127). -/
def extraBytesCheck (s : State) : State :=
  if s.sampled.strictSize && decide (s.cur < s.len) then diag .extraBytes (s.len - s.cur) s.cur s else s

/-- The end of a DECODE that completes (rules R110 and R128). The transient registers, which the spec does not keep (rule R33),
and the inputs of the DECODE hold their last values while the block is idle: DESIGN CHOICE (log 27). -/
def finish (s : State) : State :=
  { extraBytesCheck s with result := some .ok, phase := .idle }

/-- The start of a sub-frame (rules R151 and R155): DIR and SLOT, and the control record is read next. -/
def enterSubframe (d : Dir) (sl : Slot) (s : State) : State :=
  { s with dir := d, slot := sl, phase := match d with | .h2d => .h2dControl | .d2h => .d2hControl }

/-- The end of a sub-frame: CUR is the sub-frame's start P plus SUBFRAME_LEN (rule R157); then slot 2, or the end of the
datagram (rules R114, R115, R158). -/
def endSubframe (l : Literals) (d : Dir) (s : State) : State :=
  let t := { s with cur := s.p + l.subframeLen }
  match s.slot with
  | .one => enterSubframe d .two t
  | .two => finish t

/-- RESET (rules R370 and R371): RC and RF; the configuration inputs are not touched. It has no OUT and no RESULT (log 5). The
transient registers (rule R33) and the inputs of the last DECODE keep their values: DESIGN CHOICE (log 27). -/
def resetTransaction (s : State) : State :=
  { s with rc := 0#4, rf := 0#3, initialised := true, out := [], result := none }

/-- The start of a DECODE (rules R20 to R22, R28, R110): the inputs are taken and the toggles sampled, OUT and CUR are
cleared, and so are the transient registers (log 4). -/
def beginDecode (bytes : List Byte) (src dst : Port) (s : State) : State :=
  { s with
    sampled := s.inputs, phase := .status, dg := loadBytes 0 bytes, len := bytes.length, srcPort := src, dstPort := dst,
    cur := 0, skip := 0, dir := .h2d, slot := .one, c0 := 0#8, c0m := 0#8, p := 0, out := [], result := none }

/-- A transaction starts (rule R20). One that overlaps another is refused (rule R351), and so is a DECODE before the first
RESET (rule R372) or with L outside 0..MAX_LEN (rule R21). -/
def startWith (l : Literals) (r : Request) (s : State) : Host.Outcome State Fault Refusal :=
  if s.phase ≠ .idle then .refused .overlappingTransaction
  else
    match r with
    | .decode bytes src dst =>
      if !s.initialised then .refused .decodeBeforeReset
      else if l.maxLen < bytes.length then .refused .datagramTooLong
      else .next (beginDecode bytes src dst s)
    | .reset => .next (resetTransaction s)
    | .configure t => .next { s with inputs := t }

/-- A transaction starts, with MAX_LEN at its value. -/
def start (r : Request) (s : State) : Host.Outcome State Fault Refusal := startWith Config.literals r s

/-- Between transactions: the oldest pending transaction starts; with none, the block stays idle (rule R346, log 15). -/
def nextRequest (l : Literals) (s : State) : Host.Outcome State Fault Refusal :=
  match s.pending with
  | [] => .next s
  | r :: rest => startWith l r { s with pending := rest }

end Sys2Proof.Machine
end

