-- ==== Sys2Proof/Machine/FieldTables.lean ====
section
/-! DEFINITION. FIELD_TABLES, the sub-field layouts of the control records whose bits the source does not place
(spec/42_control_h2d.md rule R201), with the spec's default tables (rules R191, R192, R193, R196; log 9). -/

namespace Sys2Proof.Machine

/-- An entry of a table (rule R201): byte index 1 to 4 of C1..C4, high bit, low bit, name, and whether it is a boolean. -/
structure FieldEntry where
  byte : Nat
  hi : Nat
  lo : Nat
  name : FieldName
  isBool : Bool
  deriving DecidableEq, Repr

/-- The parameter: 0x12 (C2..C4), 0x14, 0x16, 0x1C (C3). -/
structure FieldTables where
  driveFilters : List FieldEntry
  preampMicAdc1 : List FieldEntry
  adc23Keyer : List FieldEntry
  adcAssignC3 : List FieldEntry
  deriving DecidableEq, Repr

/-- A boolean entry at one bit. -/
def boolEntry (byte bit : Nat) (name : FieldName) : FieldEntry := ⟨byte, bit, bit, name, true⟩

/-- An unsigned entry at bits hi..lo. -/
def uintEntry (byte hi lo : Nat) (name : FieldName) : FieldEntry := ⟨byte, hi, lo, name, false⟩

/-- The layout entry of a table entry, for a payload whose C1 is at `q` (rule R86). -/
def FieldEntry.spec (q : Nat) (e : FieldEntry) : FieldSpec :=
  ⟨q + (e.byte - 1), 1, e.name, if e.isBool then .flag e.lo else .bits e.hi e.lo⟩

/-- One entry lies within one payload byte of the record, first to last; a boolean is one bit (rule R201). -/
def FieldEntry.fits (first last : Nat) (e : FieldEntry) : Bool :=
  decide (first ≤ e.byte) && decide (e.byte ≤ last) && decide (e.lo ≤ e.hi) && decide (e.hi ≤ 7) &&
    (!e.isBool || e.hi == e.lo)

/-- Two entries do not share a bit (rule R201). -/
def FieldEntry.disjoint (e f : FieldEntry) : Bool := e.byte != f.byte || decide (e.hi < f.lo) || decide (f.hi < e.lo)

/-- No two entries of a table share a bit. -/
def entriesDisjoint : List FieldEntry → Bool
  | [] => true
  | e :: es => es.all (FieldEntry.disjoint e) && entriesDisjoint es

/-- The tables that rule R201 admits. -/
def FieldTables.admitted (t : FieldTables) : Bool :=
  t.driveFilters.all (fun e => e.fits 2 4 && e.hi == e.lo) && entriesDisjoint t.driveFilters &&
    t.preampMicAdc1.all (FieldEntry.fits 1 4) && entriesDisjoint t.preampMicAdc1 &&
    t.adc23Keyer.all (FieldEntry.fits 1 4) && entriesDisjoint t.adc23Keyer &&
    t.adcAssignC3.all (FieldEntry.fits 3 3) && entriesDisjoint t.adcAssignC3

/-- Rule R191, default placement of C2..C4 [general knowledge]. -/
def driveFiltersDefault : List FieldEntry :=
  [boolEntry 2 0 .mic_boost, boolEntry 2 1 .mic_line_in, boolEntry 2 2 .apollo_filter, boolEntry 2 3 .apollo_tuner,
    boolEntry 2 4 .apollo_auto_tune, boolEntry 2 5 .filter_board_select, boolEntry 2 6 .manual_filter_select,
    boolEntry 2 7 .vna_mode,
    boolEntry 3 0 .hpf_13mhz, boolEntry 3 1 .hpf_20mhz, boolEntry 3 2 .hpf_9_5mhz, boolEntry 3 3 .hpf_6_5mhz,
    boolEntry 3 4 .hpf_1_5mhz, boolEntry 3 5 .hpf_bypass, boolEntry 3 6 .lna_6m, boolEntry 3 7 .tr_relay_disable,
    boolEntry 4 0 .lpf_30_20m, boolEntry 4 1 .lpf_60_40m, boolEntry 4 2 .lpf_80m, boolEntry 4 3 .lpf_160m,
    boolEntry 4 4 .lpf_6m, boolEntry 4 5 .lpf_12_10m, boolEntry 4 6 .lpf_17_15m, boolEntry 4 7 (.c_bit 4 7)]

/-- Rule R192, default placement [general knowledge]. -/
def preampMicAdc1Default : List FieldEntry :=
  [boolEntry 1 0 (.rx_preamp 1), boolEntry 1 1 (.rx_preamp 2), boolEntry 1 2 (.rx_preamp 3), boolEntry 1 3 (.rx_preamp 4),
    boolEntry 1 4 .orion_mic_tip_ring, boolEntry 1 5 .orion_mic_bias, boolEntry 1 6 .orion_mic_ptt,
    boolEntry 1 7 (.c_bit 1 7),
    uintEntry 2 4 0 .codec_line_gain, boolEntry 2 5 (.c_bit 2 5), boolEntry 2 6 .puresignal, boolEntry 2 7 (.c_bit 2 7),
    boolEntry 3 0 (.open_drain 1), boolEntry 3 1 (.open_drain 2), boolEntry 3 2 (.open_drain 3),
    boolEntry 3 3 (.open_drain 4), boolEntry 3 4 (.c_bit 3 4), boolEntry 3 5 (.c_bit 3 5), boolEntry 3 6 (.c_bit 3 6),
    boolEntry 3 7 (.c_bit 3 7),
    uintEntry 4 4 0 (.adc_attenuation 1), boolEntry 4 5 (.adc_attenuation_enable 1), boolEntry 4 6 (.c_bit 4 6),
    boolEntry 4 7 (.c_bit 4 7)]

/-- Rule R193, default placement [general knowledge]. -/
def adc23KeyerDefault : List FieldEntry :=
  [uintEntry 1 4 0 (.adc_attenuation 2), boolEntry 1 5 (.adc_attenuation_enable 2), boolEntry 1 6 (.c_bit 1 6),
    boolEntry 1 7 (.c_bit 1 7),
    uintEntry 2 4 0 (.adc_attenuation 3), boolEntry 2 5 (.adc_attenuation_enable 3), boolEntry 2 6 .cw_reversed,
    boolEntry 2 7 (.c_bit 2 7),
    uintEntry 3 5 0 .cw_keyer_speed, uintEntry 3 7 6 .cw_keyer_mode,
    uintEntry 4 6 0 .cw_keyer_weight, boolEntry 4 7 .cw_keyer_spacing]

/-- Rule R196, the C3 width [general knowledge]. -/
def adcAssignC3Default : List FieldEntry :=
  [uintEntry 3 4 0 .tx_adc_attenuation, boolEntry 3 5 (.c_bit 3 5), boolEntry 3 6 (.c_bit 3 6), boolEntry 3 7 (.c_bit 3 7)]

/-- FIELD_TABLES at its default value (rule R6). -/
def fieldTables : FieldTables :=
  ⟨driveFiltersDefault, preampMicAdc1Default, adc23KeyerDefault, adcAssignC3Default⟩

end Sys2Proof.Machine
end

