-- ==== Sys2Proof/Machine/Flags.lean ====
section
/-! DEFINITION. The run flags: RUN_FLAGS_ENCODE and RC_UPDATE_GUARD at the spec's default values (log 10). -/

namespace Sys2Proof.Machine

/-- RUN_FLAGS_ENCODE(w) (spec/40_datagram.md rule R125): WB, IQ, START from bit 2 down to bit 0. -/
def runFlagsEncode (w : Byte) : BitVec 3 :=
  BitVec.ofBool (w.getLsbD 1) ++ BitVec.ofBool (w.getLsbD 0) ++ BitVec.ofBool (w.getLsbD 0 || w.getLsbD 1)

/-- RC_UPDATE_GUARD(RF) (spec/42_control_h2d.md rule R182): the exact comparison with 0b000 and 0b101. -/
def rcUpdateGuard (rf : BitVec 3) : Bool := rf &&& 0b111#3 == 0b000#3 || rf &&& 0b111#3 == 0b101#3

end Sys2Proof.Machine
end

