-- ==== Sys2Proof/Machine/Params.lean ====
section
/-! DEFINITION. The parameters of a model (spec/00_scope.md rule R6; spec/92_eei_decisions.md, Open parameters): an argument
of every meaning that depends on one. WELL_KNOWN_PORT is a field of State (log 7), and so are the toggles; RC_BITS and
RF_BITS are the widths of RC and RF. -/

namespace Sys2Proof.Machine

/-- The source literals, and the named arguments FWD_POWER_W (spec/44_numeric.md rule R274), RUN_FLAGS_ENCODE (spec/40_datagram.md rule R125), RC_UPDATE_GUARD (spec/42_control_h2d.md rule R182)
and FIELD_TABLES (rule R201). -/
structure Params where
  literals : Literals
  fwdPowerW : Nat → Rat
  runFlagsEncode : Byte → BitVec 3
  rcUpdateGuard : BitVec 3 → Bool
  fieldTables : FieldTables

/-- The spec's defaults, the values this hardware takes (rule R6); FWD_POWER_W, which has no default, is free (log 8). -/
def defaultParams : Params := ⟨Config.literals, fwdPowerW, runFlagsEncode, rcUpdateGuard, fieldTables⟩

/-- The values of the parameters that the spec admits (rules R201 and R274, and `Literals.admitted`). -/
def Params.admitted (pr : Params) : Prop :=
  pr.literals.admitted = true ∧ forwardPowerAdmitted pr.literals pr.fwdPowerW ∧ pr.fieldTables.admitted = true

end Sys2Proof.Machine
end

