-- ==== Sys2Proof/Machine/ControlD2h.lean ====
section
/-! DEFINITION. The Device→Host control records (spec/41_endpoint_frame.md rules R155 and R156,
spec/43_control_d2h.md). In every layout `q` is the offset of C1. -/

namespace Sys2Proof.Machine

/-- The head of a Device→Host sub-frame (rule R155) whose selector byte has C0M = `c0m`: sync as it is, C0's fields
(rule R156), and the check of the whole payload. -/
def d2hHead (c0m : Byte) (dot dash ptt : Bool) (s : State) : Run :=
  (emitAll
    [⟨s.p, 3, .sync, .bytes⟩, ⟨s.p + 3, 1, .c0_type, .given (.enum c0m.toNat)⟩, ⟨s.p + 3, 1, .ptt, .given (.bool ptt)⟩,
      ⟨s.p + 3, 1, .dash, .given (.bool dash)⟩, ⟨s.p + 3, 1, .dot, .given (.bool dot)⟩] s).andThen
    (need (s.p + 4) 4)

/-- A Device→Host control record: the head, the record's fields, and then the sample block at P + 8. -/
def d2hRecord (c0m : Byte) (dot dash ptt : Bool) (layout : Nat → List FieldSpec) (s : State) :
    Host.Outcome State Fault Refusal :=
  (((d2hHead c0m dot dash ptt s).andThen (emitAll (layout (s.p + 4)))).andThen
    fun t => .go (goto (s.p + 8) .d2hSamples t)).outcome

/-- Rule R241, the field table of record 0x00. -/
def infoLayout (q : Nat) : List FieldSpec :=
  [⟨q, 1, .adc_overflow, .flag 0⟩, ⟨q, 1, .hermes_io 1, .flag 1⟩, ⟨q, 1, .hermes_io 2, .flag 2⟩,
    ⟨q, 1, .hermes_io 3, .flag 3⟩, ⟨q, 1, .hermes_io 4, .flag 4⟩, ⟨q, 1, .pll_locked, .flag 5⟩,
    ⟨q, 1, .freq_changed, .flag 6⟩,
    ⟨q + 1, 1, .mercury_version, .ver⟩, ⟨q + 2, 1, .penelope_version, .ver⟩, ⟨q + 3, 1, .interface_version, .ver⟩]

/-- D2H_INFO (rule R241). -/
def execD2hInfo (dot dash ptt : Bool) (s : State) : Host.Outcome State Fault Refusal :=
  d2hRecord 0x00#8 dot dash ptt infoLayout s

/-- D2H_FWD_POWER (rule R242) under the parameters `pr`. -/
def execD2hFwdPowerWith (pr : Params) (dot dash ptt : Bool) (s : State) : Host.Outcome State Fault Refusal :=
  d2hRecord 0x08#8 dot dash ptt
    (fun q => [⟨q, 2, .forward_power_w, .conversion pr.fwdPowerW⟩,
      ⟨q + 2, 2, .forward_power_2_w, .conversion (bridgeWWith pr.literals)⟩]) s

/-- D2H_FWD_POWER (rule R242); the first value is the OPEN parameter FWD_POWER_W (log 8). -/
def execD2hFwdPower (dot dash ptt : Bool) (s : State) : Host.Outcome State Fault Refusal :=
  execD2hFwdPowerWith defaultParams dot dash ptt s

/-- D2H_REV_POWER (rule R243) under the parameters `pr`. -/
def execD2hRevPowerWith (pr : Params) (dot dash ptt : Bool) (s : State) : Host.Outcome State Fault Refusal :=
  d2hRecord 0x10#8 dot dash ptt
    (fun q => [⟨q, 2, .reverse_power_w, .conversion (revWWith pr.literals)⟩, ⟨q + 2, 2, .ain3, .uint⟩]) s

/-- D2H_REV_POWER (rule R243). -/
def execD2hRevPower (dot dash ptt : Bool) (s : State) : Host.Outcome State Fault Refusal :=
  execD2hRevPowerWith defaultParams dot dash ptt s

/-- D2H_SUPPLY (rule R244) under the parameters `pr`. -/
def execD2hSupplyWith (pr : Params) (dot dash ptt : Bool) (s : State) : Host.Outcome State Fault Refusal :=
  d2hRecord 0x18#8 dot dash ptt
    (fun q => [⟨q, 2, .ain4, .uint⟩, ⟨q + 2, 2, .supply_volts, .conversion (supplyVWith pr.literals)⟩]) s

/-- D2H_SUPPLY (rule R244). -/
def execD2hSupply (dot dash ptt : Bool) (s : State) : Host.Outcome State Fault Refusal :=
  execD2hSupplyWith defaultParams dot dash ptt s

/-- Rule R245: each payload byte is one unit, overflow in bit 0 and version in bits 7..1. -/
def overflowLayout (q : Nat) : List FieldSpec :=
  (List.range 4).flatMap fun k =>
    [⟨q + k, 1, .adc_unit_overflow (k + 1), .flag 0⟩, ⟨q + k, 1, .adc_unit_version (k + 1), .bits 7 1⟩]

/-- D2H_ADC_OVERFLOW (rule R245). -/
def execD2hAdcOverflow (dot dash ptt : Bool) (s : State) : Host.Outcome State Fault Refusal :=
  d2hRecord 0x20#8 dot dash ptt overflowLayout s

/-- D2H_UNKNOWN (rule R246): one opaque field, no error. -/
def execD2hUnknown (sel : BitVec 5) (dot dash ptt : Bool) (s : State) : Host.Outcome State Fault Refusal :=
  d2hRecord (sel ++ 0#3) dot dash ptt (fun q => [⟨q, 4, .control_raw, .bytes⟩]) s

end Sys2Proof.Machine
end

