-- ==== Sys2Proof/Machine/ControlH2d.lean ====
section
/-! DEFINITION. The Host→Device control records (spec/41_endpoint_frame.md rules R151 and R154,
spec/42_control_h2d.md). In every layout `q` is the offset of C1. -/

namespace Sys2Proof.Machine

/-- The LateSync diagnostic after the sync field (rules R151 and R336). -/
def lateSync (s : State) : State := if 0 < s.skip then diag .lateSync s.skip s.p s else s

/-- The head of a Host→Device sub-frame (rule R151) whose selector byte has C0M = `c0m`: sync, LateSync, C0's fields
(rule R154), and the check of the whole payload. -/
def h2dHead (c0m : Byte) (mox : Bool) (s : State) : Run :=
  ((((emit ⟨s.p, 3, .sync, .bytes⟩ s).andThen fun t => .go (lateSync t)).andThen
    (emitAll [⟨s.p + 3, 1, .c0_type, .given (.enum c0m.toNat)⟩, ⟨s.p + 3, 1, .mox, .given (.bool mox)⟩]))).andThen
    (need (s.p + 4) 4)

/-- A Host→Device control record: the head, the record's fields, what it writes, and then the sample block at P + 8. -/
def h2dRecord (c0m : Byte) (mox : Bool) (layout : Nat → List FieldSpec) (write : State → State) (s : State) :
    Host.Outcome State Fault Refusal :=
  ((((h2dHead c0m mox s).andThen (emitAll (layout (s.p + 4)))).andThen fun t => .go (write t)).andThen
    fun t => .go (goto (s.p + 8) .h2dSamples t)).outcome

/-- Rule R181, the field table of record 0x00. -/
def configLayout (q : Nat) : List FieldSpec :=
  [⟨q, 1, .speed, .bits 1 0⟩, ⟨q, 1, .ref_10mhz_source, .bits 3 2⟩, ⟨q, 1, .ref_122mhz_source, .flag 4⟩,
    ⟨q, 1, .config, .bits 6 5⟩, ⟨q, 1, .mic_source, .flag 7⟩,
    ⟨q + 1, 1, .mode, .flag 0⟩, ⟨q + 1, 1, .oc_output 1, .flag 1⟩, ⟨q + 1, 1, .oc_output 2, .flag 2⟩,
    ⟨q + 1, 1, .oc_output 3, .flag 3⟩, ⟨q + 1, 1, .oc_output 4, .flag 4⟩, ⟨q + 1, 1, .oc_output 5, .flag 5⟩,
    ⟨q + 1, 1, .oc_output 6, .flag 6⟩,
    ⟨q + 2, 1, .preselector_attenuator, .bits 1 0⟩, ⟨q + 2, 1, .preamp, .flag 2⟩, ⟨q + 2, 1, .if_dither, .flag 3⟩,
    ⟨q + 2, 1, .if_random, .flag 4⟩, ⟨q + 2, 1, .preselector_antenna, .bits 6 5⟩,
    ⟨q + 2, 1, .preselector_rx_out, .flag 7⟩,
    ⟨q + 3, 1, .tx_relay, .bits 1 0⟩, ⟨q + 3, 1, .duplex, .flag 2⟩, ⟨q + 3, 1, .receiver_count, .countField 5 3⟩,
    ⟨q + 3, 1, .mic_timestamp, .flag 6⟩, ⟨q + 3, 1, .common_mercury_freq, .flag 7⟩]

/-- rc_new = zext_4(C4[5:3]) + 1 (rule R181). -/
def rcNew (c4 : Byte) : BitVec 4 := BitVec.ofNat 4 (bitField c4 5 3 + 1)

/-- The state update of record 0x00 (rule R181), under the guard (rule R182). -/
def learnReceiverCount (guard : BitVec 3 → Bool) (s : State) : State :=
  if guard s.rf then setRc (rcNew (byteAt s (s.p + 7))) s else s

/-- H2D_CONFIG (rule R181) under the parameters `pr`. -/
def execH2dConfigWith (pr : Params) (mox : Bool) (s : State) : Host.Outcome State Fault Refusal :=
  h2dRecord 0x00#8 mox configLayout (learnReceiverCount pr.rcUpdateGuard) s

/-- H2D_CONFIG (rule R181). -/
def execH2dConfig (mox : Bool) (s : State) : Host.Outcome State Fault Refusal := execH2dConfigWith defaultParams mox s

/-- H2D_FREQ(q, name) (spec/42_control_h2d.md section 2). -/
def freqLayout (name : FieldName) (q : Nat) : List FieldSpec := [⟨q, 4, name, .uint⟩]

/-- H2D_TX_FREQ (rule R183). -/
def execH2dTxFreq (mox : Bool) (s : State) : Host.Outcome State Fault Refusal :=
  h2dRecord 0x02#8 mox (freqLayout .tx_freq_hz) id s

/-- H2D_RX1_FREQ (rule R184). -/
def execH2dRx1Freq (mox : Bool) (s : State) : Host.Outcome State Fault Refusal :=
  h2dRecord 0x04#8 mox (freqLayout (.rx_freq_hz 1)) id s

/-- H2D_RX2_FREQ (rule R185). -/
def execH2dRx2Freq (mox : Bool) (s : State) : Host.Outcome State Fault Refusal :=
  h2dRecord 0x06#8 mox (freqLayout (.rx_freq_hz 2)) id s

/-- H2D_RX3_FREQ (rule R186). -/
def execH2dRx3Freq (mox : Bool) (s : State) : Host.Outcome State Fault Refusal :=
  h2dRecord 0x08#8 mox (freqLayout (.rx_freq_hz 3)) id s

/-- H2D_RX4_FREQ (rule R187). -/
def execH2dRx4Freq (mox : Bool) (s : State) : Host.Outcome State Fault Refusal :=
  h2dRecord 0x0A#8 mox (freqLayout (.rx_freq_hz 4)) id s

/-- H2D_RX5_FREQ (rule R188). -/
def execH2dRx5Freq (mox : Bool) (s : State) : Host.Outcome State Fault Refusal :=
  h2dRecord 0x0C#8 mox (freqLayout (.rx_freq_hz 5)) id s

/-- H2D_RX6_FREQ (rule R189). -/
def execH2dRx6Freq (mox : Bool) (s : State) : Host.Outcome State Fault Refusal :=
  h2dRecord 0x0E#8 mox (freqLayout (.rx_freq_hz 6)) id s

/-- H2D_RX7_FREQ (rule R190). -/
def execH2dRx7Freq (mox : Bool) (s : State) : Host.Outcome State Fault Refusal :=
  h2dRecord 0x10#8 mox (freqLayout (.rx_freq_hz 7)) id s

/-- Rule R191: C1 is the drive level; C2..C4 come from the table. -/
def driveFiltersLayout (t : FieldTables) (q : Nat) : List FieldSpec :=
  ⟨q, 1, .drive_level, .uint⟩ :: t.driveFilters.map (FieldEntry.spec q)

/-- H2D_DRIVE_FILTERS (rule R191) under the parameters `pr`. -/
def execH2dDriveFiltersWith (pr : Params) (mox : Bool) (s : State) : Host.Outcome State Fault Refusal :=
  h2dRecord 0x12#8 mox (driveFiltersLayout pr.fieldTables) id s

/-- H2D_DRIVE_FILTERS (rule R191). -/
def execH2dDriveFilters (mox : Bool) (s : State) : Host.Outcome State Fault Refusal :=
  execH2dDriveFiltersWith defaultParams mox s

/-- Rule R192: the whole record comes from the table. -/
def preampMicAdc1Layout (t : FieldTables) (q : Nat) : List FieldSpec := t.preampMicAdc1.map (FieldEntry.spec q)

/-- H2D_PREAMP_MIC_ADC1 (rule R192) under the parameters `pr`. -/
def execH2dPreampMicAdc1With (pr : Params) (mox : Bool) (s : State) : Host.Outcome State Fault Refusal :=
  h2dRecord 0x14#8 mox (preampMicAdc1Layout pr.fieldTables) id s

/-- H2D_PREAMP_MIC_ADC1 (rule R192). -/
def execH2dPreampMicAdc1 (mox : Bool) (s : State) : Host.Outcome State Fault Refusal :=
  execH2dPreampMicAdc1With defaultParams mox s

/-- Rule R193: the whole record comes from the table. -/
def adc23KeyerLayout (t : FieldTables) (q : Nat) : List FieldSpec := t.adc23Keyer.map (FieldEntry.spec q)

/-- H2D_ADC23_KEYER (rule R193) under the parameters `pr`. -/
def execH2dAdc23KeyerWith (pr : Params) (mox : Bool) (s : State) : Host.Outcome State Fault Refusal :=
  h2dRecord 0x16#8 mox (adc23KeyerLayout pr.fieldTables) id s

/-- H2D_ADC23_KEYER (rule R193). -/
def execH2dAdc23Keyer (mox : Bool) (s : State) : Host.Outcome State Fault Refusal :=
  execH2dAdc23KeyerWith defaultParams mox s

/-- H2D_MERCURY1_RSVD (rule R194). -/
def execH2dMercury1Rsvd (mox : Bool) (s : State) : Host.Outcome State Fault Refusal :=
  h2dRecord 0x18#8 mox (fun q => [⟨q, 4, .mercury_reserved 1, .bytes⟩]) id s

/-- H2D_MERCURY2_RSVD (rule R195). -/
def execH2dMercury2Rsvd (mox : Bool) (s : State) : Host.Outcome State Fault Refusal :=
  h2dRecord 0x1A#8 mox (fun q => [⟨q, 4, .mercury_reserved 2, .bytes⟩]) id s

/-- Rule R196: the RX assignments are fixed; C3 comes from the table. -/
def adcAssignLayout (t : FieldTables) (q : Nat) : List FieldSpec :=
  [⟨q, 1, .rx_adc 1, .bits 1 0⟩, ⟨q, 1, .rx_adc 2, .bits 3 2⟩, ⟨q, 1, .rx_adc 3, .bits 5 4⟩, ⟨q, 1, .rx_adc 4, .bits 7 6⟩,
    ⟨q + 1, 1, .rx_adc 5, .bits 1 0⟩, ⟨q + 1, 1, .rx_adc 6, .bits 3 2⟩, ⟨q + 1, 1, .rx_adc 7, .bits 5 4⟩]
    ++ t.adcAssignC3.map (FieldEntry.spec q)

/-- H2D_ADC_ASSIGN (rule R196) under the parameters `pr`. -/
def execH2dAdcAssignWith (pr : Params) (mox : Bool) (s : State) : Host.Outcome State Fault Refusal :=
  h2dRecord 0x1C#8 mox (adcAssignLayout pr.fieldTables) id s

/-- H2D_ADC_ASSIGN (rule R196). -/
def execH2dAdcAssign (mox : Bool) (s : State) : Host.Outcome State Fault Refusal :=
  execH2dAdcAssignWith defaultParams mox s

/-- H2D_CW_SIDETONE_PTT (rule R197). -/
def execH2dCwSidetonePtt (mox : Bool) (s : State) : Host.Outcome State Fault Refusal :=
  h2dRecord 0x1E#8 mox
    (fun q => [⟨q, 1, .cw_source, .flag 0⟩, ⟨q + 1, 1, .sidetone_volume, .uint⟩, ⟨q + 2, 1, .ptt_delay_ms, .uint⟩]) id s

/-- H2D_CW_HANG_TONE (rule R198) under the parameters `pr`. -/
def execH2dCwHangToneWith (pr : Params) (mox : Bool) (s : State) : Host.Outcome State Fault Refusal :=
  h2dRecord 0x20#8 mox
    (fun q => [⟨q, 2, .cw_hang_time, .rec10Less pr.literals.hangOffset⟩, ⟨q + 2, 2, .cw_sidetone_freq, .rec10⟩]) id s

/-- H2D_CW_HANG_TONE (rule R198). -/
def execH2dCwHangTone (mox : Bool) (s : State) : Host.Outcome State Fault Refusal :=
  execH2dCwHangToneWith defaultParams mox s

/-- H2D_PWM (rule R199). -/
def execH2dPwm (mox : Bool) (s : State) : Host.Outcome State Fault Refusal :=
  h2dRecord 0x22#8 mox (fun q => [⟨q, 2, .pwm_min, .rec10⟩, ⟨q + 2, 2, .pwm_max, .rec10⟩]) id s

/-- H2D_UNKNOWN (rule R200): one opaque field, no error. -/
def execH2dUnknown (sel : BitVec 7) (mox : Bool) (s : State) : Host.Outcome State Fault Refusal :=
  h2dRecord (sel ++ 0#1) mox (fun q => [⟨q, 4, .control_raw, .bytes⟩]) id s

end Sys2Proof.Machine
end

