-- ==== Sys2Proof/Machine/Discovery.lean ====
section
/-! DEFINITION. The Discovery maps (spec/40_datagram.md rules R119 to R122). -/

namespace Sys2Proof.Machine

/-- DISC_QUERY (rule R120) under the parameters `pr`: a marker of length 0 and the pad. -/
def execDiscQueryWith (pr : Params) (s : State) : Host.Outcome State Fault Refusal :=
  (((emit ⟨3, 0, .discovery_query, .given .marker⟩ s).andThen (padRegion 3 pr.literals.queryPad)).andThen
    fun s => .go (finish s)).outcome

/-- DISC_QUERY (rule R120). -/
def execDiscQuery (s : State) : Host.Outcome State Fault Refusal := execDiscQueryWith defaultParams s

/-- The fields that every Discovery reply carries (rule R121). -/
def replyLayout (board : Byte) : List FieldSpec :=
  [⟨3, 6, .hw_address, .bytes⟩, ⟨9, 1, .version, .ver⟩, ⟨10, 1, .board_id, .given (.enum board.toNat)⟩]

/-- DISC_REPLY (rule R121) under the parameters `pr`: a board other than Hermes_Lite. -/
def execDiscReplyWith (pr : Params) (board : Byte) (s : State) : Host.Outcome State Fault Refusal :=
  (((emitAll (replyLayout board) s).andThen (padRegion 11 pr.literals.replyPad)).andThen fun s => .go (finish s)).outcome

/-- DISC_REPLY (rule R121). -/
def execDiscReply (board : Byte) (s : State) : Host.Outcome State Fault Refusal := execDiscReplyWith defaultParams board s

/-- DISC_REPLY_HL (rule R122) under the parameters `pr`: board id 6, Hermes_Lite. -/
def execDiscReplyHlWith (pr : Params) (s : State) : Host.Outcome State Fault Refusal :=
  ((((emitAll (replyLayout 0x06#8) s).andThen (emit ⟨11, 9, .hl_version_string, .bytes⟩)).andThen
    (padRegion 20 pr.literals.replyHlPad)).andThen fun s => .go (finish s)).outcome

/-- DISC_REPLY_HL (rule R122). -/
def execDiscReplyHl (s : State) : Host.Outcome State Fault Refusal := execDiscReplyHlWith defaultParams s

end Sys2Proof.Machine
end

