-- ==== Sys2Proof/Machine/Endpoint.lean ====
section
/-! DEFINITION. The endpoint map: the meanings of the endpoint byte's values (spec/40_datagram.md rules R114 to R117). -/

namespace Sys2Proof.Machine

/-- EP2_H2D (rule R114): slot 1 of two Host→Device sub-frames starts at CUR. -/
def execEp2H2d (s : State) : Host.Outcome State Fault Refusal := .next (enterSubframe .h2d .one s)

/-- The endpoint-4 samples from offset `b` (rules R83 and R116). -/
def ep4Layout (b : Nat) : List FieldSpec := (List.range 512).map fun i => ⟨b + 2 * i, 2, .ep4_sample i, .sint⟩

/-- EP4_RAW (rule R116). -/
def execEp4Raw (s : State) : Host.Outcome State Fault Refusal :=
  ((emitAll (ep4Layout s.cur) s).andThen fun t => .go (finish (goto (s.cur + 1024) t.phase t))).outcome

/-- EP6_D2H (rule R115): slot 1 of two Device→Host sub-frames starts at CUR. -/
def execEp6D2h (s : State) : Host.Outcome State Fault Refusal := .next (enterSubframe .d2h .one s)

/-- EP_UNKNOWN (rule R117): fatal. -/
def execEpUnknown (ep : Byte) (s : State) : Host.Outcome State Fault Refusal := .next (raise (.unknownEndpoint ep) s)

end Sys2Proof.Machine
end

