-- ==== Sys2Proof/Machine/Samples.lean ====
section
/-! DEFINITION. The sample-block layouts (spec/45_sample_blocks.md). In every layout `b` is the offset of the block,
P + 8 (rule R157), and `len` its length, SAMPLE_BLOCK_LEN. -/

namespace Sys2Proof.Machine

/-- H2D_TUPLE(a, t) (rule R301). -/
def h2dTuple (a t : Nat) : List FieldSpec :=
  [⟨a, 2, .left t, .sint⟩, ⟨a + 2, 2, .right t, .sint⟩, ⟨a + 4, 2, .i t, .sint⟩, ⟨a + 6, 2, .q t, .sint⟩]

/-- SAMPLES_H2D(b) (rule R300): the 8-byte tuples that a block of `len` bytes holds. -/
def h2dBlockWith (len b : Nat) : List FieldSpec := (List.range (len / 8)).flatMap fun t => h2dTuple (b + 8 * t) t

/-- SAMPLES_H2D(b) (rule R300). -/
def h2dBlock (b : Nat) : List FieldSpec := h2dBlockWith Config.literals.sampleBlockLen b

/-- One tuple of N receivers at offset `a` (rule R305). -/
def d2hTuple (n a t : Nat) : List FieldSpec :=
  ((List.range n).flatMap fun r =>
    [⟨a + 6 * r, 3, .rx_i (r + 1) t, .sint⟩, ⟨a + 6 * r + 3, 3, .rx_q (r + 1) t, .sint⟩])
    ++ [⟨a + 6 * n, 2, .mic t, .sint⟩]

/-- The trailing pad of a Device→Host block, emitted only when it has bytes (rule R305). -/
def d2hPad (len n b : Nat) : List FieldSpec :=
  if 0 < len % (6 * n + 2) then [⟨b + len / (6 * n + 2) * (6 * n + 2), len % (6 * n + 2), .pad, .bytes⟩] else []

/-- SB_D2H_MULTI(b, N) in a block of `len` bytes, for every N >= 1 (rules R304, R305, R307). -/
def d2hBlockWith (len n b : Nat) : List FieldSpec :=
  ((List.range (len / (6 * n + 2))).flatMap fun t => d2hTuple n (b + t * (6 * n + 2)) t) ++ d2hPad len n b

/-- SB_D2H_MULTI(b, N), for every N >= 1 (rules R304, R305, R307). -/
def d2hBlock (n b : Nat) : List FieldSpec := d2hBlockWith Config.literals.sampleBlockLen n b

/-- A sample block: its fields, and then the end of the sub-frame (rules R151, R155, R157). -/
def sampleBlock (l : Literals) (d : Dir) (layout : Nat → List FieldSpec) (s : State) : Host.Outcome State Fault Refusal :=
  ((emitAll (layout (s.p + 8)) s).andThen fun t => .go (endSubframe l d t)).outcome

/-- SB_H2D (rule R300) under the parameters `pr`. -/
def execSbH2dWith (pr : Params) (s : State) : Host.Outcome State Fault Refusal :=
  sampleBlock pr.literals .h2d (h2dBlockWith pr.literals.sampleBlockLen) s

/-- SB_H2D (rule R300). -/
def execSbH2d (s : State) : Host.Outcome State Fault Refusal := execSbH2dWith defaultParams s

/-- SB_D2H_BLOB (rule R303) under the parameters `pr`. -/
def execSbD2hBlobWith (pr : Params) (s : State) : Host.Outcome State Fault Refusal :=
  sampleBlock pr.literals .d2h (fun b => [⟨b, pr.literals.sampleBlockLen, .samples_raw, .bytes⟩]) s

/-- SB_D2H_BLOB (rule R303). -/
def execSbD2hBlob (s : State) : Host.Outcome State Fault Refusal := execSbD2hBlobWith defaultParams s

/-- SB_D2H_ONE (rule R304) under the parameters `pr`. -/
def execSbD2hOneWith (pr : Params) (s : State) : Host.Outcome State Fault Refusal :=
  sampleBlock pr.literals .d2h (d2hBlockWith pr.literals.sampleBlockLen 1) s

/-- SB_D2H_ONE (rule R304). -/
def execSbD2hOne (s : State) : Host.Outcome State Fault Refusal := execSbD2hOneWith defaultParams s

/-- SB_D2H_MULTI (rule R305) for N = `n` receivers, under the parameters `pr`. -/
def execSbD2hMultiWith (pr : Params) (n : Nat) (s : State) : Host.Outcome State Fault Refusal :=
  sampleBlock pr.literals .d2h (d2hBlockWith pr.literals.sampleBlockLen n) s

/-- SB_D2H_MULTI (rule R305) for N = `n` receivers. -/
def execSbD2hMulti (n : Nat) (s : State) : Host.Outcome State Fault Refusal := execSbD2hMultiWith defaultParams n s

end Sys2Proof.Machine
end

