-- ==== Sys2Proof/Machine/Status.lean ====
section
/-! DEFINITION. The status map: the meanings of the status byte's values (spec/40_datagram.md rules R111 to R113, R119,
R123 to R126). -/

namespace Sys2Proof.Machine

/-- ST_DATA (rule R113): the endpoint id and the sequence number; the endpoint selector comes next. -/
def execStData (s : State) : Host.Outcome State Fault Refusal :=
  (((header s).andThen (emitAll [⟨3, 1, .endpoint, .enum⟩, ⟨4, 4, .sequence, .uint⟩])).andThen
    fun s => .go (goto 8 .endpoint s)).outcome

/-- ST_DISCOVERY (rule R119): the dispatch on the port and the board id comes next. -/
def execStDiscovery (s : State) : Host.Outcome State Fault Refusal :=
  ((header s).andThen fun s => .go (goto 3 .discovery s)).outcome

/-- ST_SETIP (rule R123) under the parameters `pr`. -/
def execStSetipWith (pr : Params) (s : State) : Host.Outcome State Fault Refusal :=
  ((((header s).andThen (emitAll [⟨3, 6, .mac, .bytes⟩, ⟨9, 4, .ipv4, .bytes⟩])).andThen
    (padRegion 13 pr.literals.setipPad)).andThen fun s => .go (finish s)).outcome

/-- ST_SETIP (rule R123). -/
def execStSetip (s : State) : Host.Outcome State Fault Refusal := execStSetipWith defaultParams s

/-- ST_STARTSTOP (rule R124) under the parameters `pr`: RF is written once the run byte is read, before the pad. -/
def execStStartstopWith (pr : Params) (s : State) : Host.Outcome State Fault Refusal :=
  (((((header s).andThen (emitAll [⟨3, 1, .iq_stream, .flag 0⟩, ⟨3, 1, .wideband_stream, .flag 1⟩])).andThen
    fun s => .go (setRf (pr.runFlagsEncode (byteAt s 3)) s)).andThen (padRegion 4 pr.literals.startstopPad)).andThen
    fun s => .go (finish s)).outcome

/-- ST_STARTSTOP (rule R124). -/
def execStStartstop (s : State) : Host.Outcome State Fault Refusal := execStStartstopWith defaultParams s

/-- ST_UNKNOWN (rule R126): fatal, after the header. -/
def execStUnknown (status : Byte) (s : State) : Host.Outcome State Fault Refusal :=
  ((header s).andThen fun s => .trap (raise (.unknownStatus status) s)).outcome

end Sys2Proof.Machine
end

