-- ==== Sys2Proof/Machine/Dispatch.lean ====
section
/-! DEFINITION. The dispatch: one arm per instruction, each a direct call of its meaning. -/

namespace Sys2Proof.Machine

def exec (i : Instr) (s : State) : Host.Outcome State Fault Refusal :=
  match i with
  | .stData => Sys2Proof.Machine.execStData s
  | .stDiscovery => Sys2Proof.Machine.execStDiscovery s
  | .stSetip => Sys2Proof.Machine.execStSetip s
  | .stStartstop => Sys2Proof.Machine.execStStartstop s
  | .stUnknown status => Sys2Proof.Machine.execStUnknown status s
  | .ep2H2d => Sys2Proof.Machine.execEp2H2d s
  | .ep4Raw => Sys2Proof.Machine.execEp4Raw s
  | .ep6D2h => Sys2Proof.Machine.execEp6D2h s
  | .epUnknown ep => Sys2Proof.Machine.execEpUnknown ep s
  | .discQuery => Sys2Proof.Machine.execDiscQuery s
  | .discReply board => Sys2Proof.Machine.execDiscReply board s
  | .discReplyHl => Sys2Proof.Machine.execDiscReplyHl s
  | .h2dConfig mox => Sys2Proof.Machine.execH2dConfig mox s
  | .h2dTxFreq mox => Sys2Proof.Machine.execH2dTxFreq mox s
  | .h2dRx1Freq mox => Sys2Proof.Machine.execH2dRx1Freq mox s
  | .h2dRx2Freq mox => Sys2Proof.Machine.execH2dRx2Freq mox s
  | .h2dRx3Freq mox => Sys2Proof.Machine.execH2dRx3Freq mox s
  | .h2dRx4Freq mox => Sys2Proof.Machine.execH2dRx4Freq mox s
  | .h2dRx5Freq mox => Sys2Proof.Machine.execH2dRx5Freq mox s
  | .h2dRx6Freq mox => Sys2Proof.Machine.execH2dRx6Freq mox s
  | .h2dRx7Freq mox => Sys2Proof.Machine.execH2dRx7Freq mox s
  | .h2dDriveFilters mox => Sys2Proof.Machine.execH2dDriveFilters mox s
  | .h2dPreampMicAdc1 mox => Sys2Proof.Machine.execH2dPreampMicAdc1 mox s
  | .h2dAdc23Keyer mox => Sys2Proof.Machine.execH2dAdc23Keyer mox s
  | .h2dMercury1Rsvd mox => Sys2Proof.Machine.execH2dMercury1Rsvd mox s
  | .h2dMercury2Rsvd mox => Sys2Proof.Machine.execH2dMercury2Rsvd mox s
  | .h2dAdcAssign mox => Sys2Proof.Machine.execH2dAdcAssign mox s
  | .h2dCwSidetonePtt mox => Sys2Proof.Machine.execH2dCwSidetonePtt mox s
  | .h2dCwHangTone mox => Sys2Proof.Machine.execH2dCwHangTone mox s
  | .h2dPwm mox => Sys2Proof.Machine.execH2dPwm mox s
  | .h2dUnknown sel mox => Sys2Proof.Machine.execH2dUnknown sel mox s
  | .d2hInfo dot dash ptt => Sys2Proof.Machine.execD2hInfo dot dash ptt s
  | .d2hFwdPower dot dash ptt => Sys2Proof.Machine.execD2hFwdPower dot dash ptt s
  | .d2hRevPower dot dash ptt => Sys2Proof.Machine.execD2hRevPower dot dash ptt s
  | .d2hSupply dot dash ptt => Sys2Proof.Machine.execD2hSupply dot dash ptt s
  | .d2hAdcOverflow dot dash ptt => Sys2Proof.Machine.execD2hAdcOverflow dot dash ptt s
  | .d2hUnknown sel dot dash ptt => Sys2Proof.Machine.execD2hUnknown sel dot dash ptt s
  | .sbH2d => Sys2Proof.Machine.execSbH2d s
  | .sbD2hBlob => Sys2Proof.Machine.execSbD2hBlob s
  | .sbD2hOne => Sys2Proof.Machine.execSbD2hOne s
  | .sbD2hMulti n => Sys2Proof.Machine.execSbD2hMulti n s

end Sys2Proof.Machine
end

