-- ==== Sys2Proof/WellFormed.lean ====
section
/-! DEFINITION. Which terms of Instr a selector word can stand for: an "unknown" arm never carries a listed value, and
a layout's receiver count is one its arm serves (spec/30_encoding.md rules R71, R73, R80, R91, R92, R93). -/

namespace Sys2Proof

/-- Well-formedness of an instruction. -/
def Instr.wf : Instr → Bool
  | .stUnknown st => st != 1#8 && st != 2#8 && st != 3#8 && st != 4#8
  | .epUnknown ep => ep != 2#8 && ep != 4#8 && ep != 6#8
  | .discReply board => board != 6#8
  | .h2dUnknown sel _ => decide (18 ≤ sel.toNat)
  | .d2hUnknown sel _ _ _ => decide (5 ≤ sel.toNat)
  | .sbD2hMulti n => decide (2 ≤ n)
  | .stData | .stDiscovery | .stSetip | .stStartstop | .ep2H2d | .ep4Raw | .ep6D2h | .discQuery | .discReplyHl
  | .h2dConfig _ | .h2dTxFreq _ | .h2dRx1Freq _ | .h2dRx2Freq _ | .h2dRx3Freq _ | .h2dRx4Freq _ | .h2dRx5Freq _
  | .h2dRx6Freq _ | .h2dRx7Freq _ | .h2dDriveFilters _ | .h2dPreampMicAdc1 _ | .h2dAdc23Keyer _ | .h2dMercury1Rsvd _
  | .h2dMercury2Rsvd _ | .h2dAdcAssign _ | .h2dCwSidetonePtt _ | .h2dCwHangTone _ | .h2dPwm _
  | .d2hInfo _ _ _ | .d2hFwdPower _ _ _ | .d2hRevPower _ _ _ | .d2hSupply _ _ _ | .d2hAdcOverflow _ _ _
  | .sbH2d | .sbD2hBlob | .sbD2hOne => true

end Sys2Proof
end

