-- ==== Sys2Proof/Decode.lean ====
section
/-! DEFINITION. The decoder, from a selector word in its map to an instruction, and the encoder back
(spec/30_encoding.md rules R71, R73, R77 to R80, R91 to R93). -/

namespace Sys2Proof

/-- Rule R71: the status byte is matched exactly, no bit masked (40_datagram.md rule R112). -/
def decodeStatus (b : Byte) : Instr :=
  match b.toNat with
  | 1 => .stData
  | 2 => .stDiscovery
  | 3 => .stSetip
  | 4 => .stStartstop
  | _ => .stUnknown b

/-- Rule R73: the endpoint byte. -/
def decodeEndpoint (b : Byte) : Instr :=
  match b.toNat with
  | 2 => .ep2H2d
  | 4 => .ep4Raw
  | 6 => .ep6D2h
  | _ => .epUnknown b

/-- Rules R80 and R98: the board id of a Discovery reply. -/
def decodeBoard (b : Byte) : Instr :=
  match b.toNat with
  | 6 => .discReplyHl
  | _ => .discReply b

/-- Rules R77 and R91: bits 7..1 of C0 select the record, bit 0 is MOX. -/
def decodeH2d (c0 : Byte) : Instr :=
  let sel : BitVec 7 := c0.extractLsb' 1 7
  let mox := c0.getLsbD 0
  match sel.toNat with
  | 0 => .h2dConfig mox
  | 1 => .h2dTxFreq mox
  | 2 => .h2dRx1Freq mox
  | 3 => .h2dRx2Freq mox
  | 4 => .h2dRx3Freq mox
  | 5 => .h2dRx4Freq mox
  | 6 => .h2dRx5Freq mox
  | 7 => .h2dRx6Freq mox
  | 8 => .h2dRx7Freq mox
  | 9 => .h2dDriveFilters mox
  | 10 => .h2dPreampMicAdc1 mox
  | 11 => .h2dAdc23Keyer mox
  | 12 => .h2dMercury1Rsvd mox
  | 13 => .h2dMercury2Rsvd mox
  | 14 => .h2dAdcAssign mox
  | 15 => .h2dCwSidetonePtt mox
  | 16 => .h2dCwHangTone mox
  | 17 => .h2dPwm mox
  | _ => .h2dUnknown sel mox

/-- Rules R78 and R92: bits 7..3 of C0 select the record; bits 0, 1, 2 are PTT, DASH, DOT. -/
def decodeD2h (c0 : Byte) : Instr :=
  let sel : BitVec 5 := c0.extractLsb' 3 5
  let ptt := c0.getLsbD 0
  let dash := c0.getLsbD 1
  let dot := c0.getLsbD 2
  match sel.toNat with
  | 0 => .d2hInfo dot dash ptt
  | 1 => .d2hFwdPower dot dash ptt
  | 2 => .d2hRevPower dot dash ptt
  | 3 => .d2hSupply dot dash ptt
  | 4 => .d2hAdcOverflow dot dash ptt
  | _ => .d2hUnknown sel dot dash ptt

/-- Rules R93 and R302: the Device→Host sample layout selected by the receiver count, for every natural (rule R25). -/
def decodeLayout (n : Nat) : Instr :=
  match n with
  | 0 => .sbD2hBlob
  | 1 => .sbD2hOne
  | n => .sbD2hMulti n

/-- The natural that bytes stand for, the least significant first. -/
def leNat : List Byte → Nat
  | [] => 0
  | b :: bs => b.toNat + 256 * leNat bs

/-- The decoder, total on any bytes: the selector is the first byte of the word where the map has one, and bytes after it
are the instruction's operand bytes and choose nothing. The sample-layout selector is a register and not a byte of the
datagram: its word is the receiver count, of any width (log 21). -/
def decode (m : SelMap) (word : List Byte) : Except DecodeError Instr :=
  match m, word with
  | .discQuery, _ => .ok .discQuery
  | .h2dSamples, _ => .ok .sbH2d
  | _, [] => .error .noSelectorByte
  | .status, b :: _ => .ok (decodeStatus b)
  | .endpoint, b :: _ => .ok (decodeEndpoint b)
  | .discReply, b :: _ => .ok (decodeBoard b)
  | .h2dControl, b :: _ => .ok (decodeH2d b)
  | .d2hControl, b :: _ => .ok (decodeD2h b)
  | .d2hSamples, b :: bs => .ok (decodeLayout (leNat (b :: bs)))

/-- C0 of a Host→Device record (rule R77). -/
def c0H2d (sel : BitVec 7) (mox : Bool) : Byte := sel ++ BitVec.ofBool mox

/-- C0 of a Device→Host record (rule R78). -/
def c0D2h (sel : BitVec 5) (dot dash ptt : Bool) : Byte :=
  sel ++ BitVec.ofBool dot ++ BitVec.ofBool dash ++ BitVec.ofBool ptt

/-- The bytes of a natural, the least significant first, without leading zeros; `fuel` bytes are enough. -/
def leBytes (fuel n : Nat) : List Byte :=
  match fuel with
  | 0 => []
  | fuel + 1 => if n = 0 then [] else BitVec.ofNat 8 n :: leBytes fuel (n / 256)

/-- The encoder: the selector word of an instruction in its map (rules R71, R73, R80, R91, R92, R93). -/
def encode : Instr → List Byte
  | .stData => [0x01#8]
  | .stDiscovery => [0x02#8]
  | .stSetip => [0x03#8]
  | .stStartstop => [0x04#8]
  | .stUnknown st => [st]
  | .ep2H2d => [0x02#8]
  | .ep4Raw => [0x04#8]
  | .ep6D2h => [0x06#8]
  | .epUnknown ep => [ep]
  | .discQuery => []
  | .discReply board => [board]
  | .discReplyHl => [0x06#8]
  | .h2dConfig mox => [c0H2d 0 mox]
  | .h2dTxFreq mox => [c0H2d 1 mox]
  | .h2dRx1Freq mox => [c0H2d 2 mox]
  | .h2dRx2Freq mox => [c0H2d 3 mox]
  | .h2dRx3Freq mox => [c0H2d 4 mox]
  | .h2dRx4Freq mox => [c0H2d 5 mox]
  | .h2dRx5Freq mox => [c0H2d 6 mox]
  | .h2dRx6Freq mox => [c0H2d 7 mox]
  | .h2dRx7Freq mox => [c0H2d 8 mox]
  | .h2dDriveFilters mox => [c0H2d 9 mox]
  | .h2dPreampMicAdc1 mox => [c0H2d 10 mox]
  | .h2dAdc23Keyer mox => [c0H2d 11 mox]
  | .h2dMercury1Rsvd mox => [c0H2d 12 mox]
  | .h2dMercury2Rsvd mox => [c0H2d 13 mox]
  | .h2dAdcAssign mox => [c0H2d 14 mox]
  | .h2dCwSidetonePtt mox => [c0H2d 15 mox]
  | .h2dCwHangTone mox => [c0H2d 16 mox]
  | .h2dPwm mox => [c0H2d 17 mox]
  | .h2dUnknown sel mox => [c0H2d sel mox]
  | .d2hInfo dot dash ptt => [c0D2h 0 dot dash ptt]
  | .d2hFwdPower dot dash ptt => [c0D2h 1 dot dash ptt]
  | .d2hRevPower dot dash ptt => [c0D2h 2 dot dash ptt]
  | .d2hSupply dot dash ptt => [c0D2h 3 dot dash ptt]
  | .d2hAdcOverflow dot dash ptt => [c0D2h 4 dot dash ptt]
  | .d2hUnknown sel dot dash ptt => [c0D2h sel dot dash ptt]
  | .sbH2d => []
  | .sbD2hBlob => [0#8]
  | .sbD2hOne => [1#8]
  | .sbD2hMulti n => BitVec.ofNat 8 n :: leBytes n (n / 256)

/-- Whether an instruction is the "any other value" arm of its map. -/
def Instr.isOther : Instr → Bool
  | .stUnknown _ | .epUnknown _ | .h2dUnknown _ _ | .d2hUnknown _ _ _ _ => true
  | _ => false

/-- The first `n` bytes of a word whose bit 0 is the least significant bit of its first byte. -/
def bytesOfNat : Nat → Nat → List Byte
  | 0, _ => []
  | n + 1, w => BitVec.ofNat 8 w :: bytesOfNat n (w / 256)

/-- Whether a map lists the selector byte `b` by value. -/
def SelMap.lists (m : SelMap) (b : Byte) : Bool :=
  match decode m [b] with
  | .ok i => !i.isOther
  | .error _ => false

/-- DESIGN CHOICE (log 3): a selector byte of the opcode table does not say which map it belongs to. This is the map of
the first row, in the table's order, that lists the byte; a byte that no row lists is read as a status. -/
def tableMap (b : Byte) : SelMap :=
  if SelMap.status.lists b then .status
  else if SelMap.endpoint.lists b then .endpoint
  else if SelMap.h2dControl.lists b then .h2dControl
  else if SelMap.d2hControl.lists b then .d2hControl
  else .status

/-- The instruction the decoder reads from a word of the opcode table, laid out with its first byte first. -/
def decodeTableWord (nbits w : Nat) : Option Instr :=
  match bytesOfNat (nbits / 8) w with
  | [] => none
  | b :: rest => (decode (tableMap b) (b :: rest)).toOption

end Sys2Proof
end

