-- ==== Sys2Proof/Machine/Fetch.lean ====
section
/-! DEFINITION. Fetching: where the next selector word lies, the bounds checks that reading it takes, and the registers it
sets; and the step around it. A fetch emits nothing; the meaning of the instruction emits every field (log 1). -/

namespace Sys2Proof.Machine

/-- What a fetch gives: a selector word in its map, a fatal error taken on the way, or no transaction in progress. -/
inductive Fetched
  | word (m : SelMap) (w : List Byte) (s : State)
  | trap (s : State)
  | idle
  deriving DecidableEq, Repr

/-- The selector word read once the checks have passed. -/
def Run.read (r : Run) (m : SelMap) (w : State → List Byte) : Fetched :=
  match r with
  | .go s => .word m (w s) s
  | .trap s => .trap s

/-- The search for `marker` (spec/41_endpoint_frame.md rule R152) from offset `o` with `k` bytes skipped: the skip count at which
the marker stands, or the first skip count whose 3-byte window passes L. The first argument bounds the search; L - o + 1
positions are enough. -/
def syncScan (marker : List Byte) (s : State) (o : Nat) : Nat → Nat → Except Nat Nat
  | 0, k => .error k
  | fuel + 1, k =>
    if o + k + 3 > s.len then .error k
    else if bytesAt s (o + k) 3 = marker then .ok k
    else syncScan marker s o fuel (k + 1)

/-- P and SKIP (rule R33). -/
def setBase (p skip : Nat) (s : State) : State := { s with p := p, skip := skip }

/-- SYNC_LOCATE(o) (rules R152 and R153). SKIP is written, with P, when the search succeeds. After a Truncated it holds the value
from before the search, where the pseudocode has written 0 or j: DESIGN CHOICE (log 6). -/
def syncLocate (l : Literals) (o : Nat) (s : State) : Run :=
  if s.sampled.syncCheck then
    match syncScan l.syncMarker s o (s.len - o + 1) 0 with
    | .ok k => .go (setBase (o + k) k s)
    | .error k => .trap (raise (.truncated (o + k) 3) s)
  else (need o 3 s).andThen fun s => .go (setBase o 0 s)

/-- C0 and C0M (rules R77 and R78). -/
def setC0 (mask : Byte) (s : State) : State := { s with c0 := byteAt s (s.p + 3), c0m := byteAt s (s.p + 3) &&& mask }

/-- The next selector word, by phase, for any values of the literals. The selector byte of a control record is C0M with C0's
flag bits (rules R77 and R78), which under the source's masks is C0 itself. After a
Truncated at the sync field of a Device→Host sub-frame, too, SKIP holds its earlier value and not the 0 of rule R155 (log 6). -/
def fetchWith (l : Literals) (s : State) : Fetched :=
  match s.phase with
  | .idle => .idle
  | .status => (need 0 3 s).read .status fun s => [byteAt s 2]
  | .endpoint => (need 3 1 s).read .endpoint fun s => [byteAt s 3]
  | .discovery =>
    if s.dstPort = s.wellKnownPort then .word .discQuery [] s
    else (((need 3 6 s).andThen (need 9 1)).andThen (need 10 1)).read .discReply fun s => [byteAt s 10]
  | .h2dControl =>
    ((syncLocate l s.cur s).andThen fun s => (need (s.p + 3) 1 s).andThen fun s => .go (setC0 l.h2dTypeMask s)).read
      .h2dControl fun s => [s.c0m ||| (s.c0 &&& 0x01#8)]
  | .d2hControl =>
    (((need s.cur 3 s).andThen fun s => .go (setBase s.cur 0 s)).andThen fun s =>
      (need (s.p + 3) 1 s).andThen fun s => .go (setC0 l.d2hTypeMask s)).read .d2hControl fun s => [s.c0m ||| (s.c0 &&& 0x07#8)]
  | .h2dSamples => .word .h2dSamples [] s
  | .d2hSamples => .word .d2hSamples [s.rc.setWidth 8] s

/-- The next selector word. -/
def fetch (s : State) : Fetched := fetchWith Config.literals s

/-- One step with the meanings `run` and the literals `l`: the next selector word is fetched, decoded and
executed; between transactions the oldest pending transaction starts. -/
def stepBy (l : Literals) (run : Instr → State → Host.Outcome State Fault Refusal) (s : State) :
    Host.Outcome State Fault Refusal :=
  match fetchWith l s with
  | .idle => nextRequest l s
  | .trap t => .next t
  | .word m w t =>
    match decode m w with
    | .ok i => run i t
    | .error e => .refused (.undecodable e)

end Sys2Proof.Machine
end

