-- ==== Sys2Proof/Machine/Place.lean ====
section
/-! DEFINITION. Placing a word of the opcode table where the next step fetches its selector (log 2, log 3): a DECODE in
progress that has reached the word's map, in a datagram of zeros but for the bytes that lead there. -/

namespace Sys2Proof.Machine

/-- A DECODE in progress on a datagram of the nominal 1032 bytes (spec/30_encoding.md rule R72). -/
def placed (ph : Phase) (cur : Nat) (d : Dir) (m : Memory) (s : State) : State :=
  { s with
    sampled := s.inputs, phase := ph, dg := m, len := 1032, cur := cur, skip := 0, dir := d, slot := .one, c0 := 0#8,
    c0m := 0#8, p := 0, out := [], result := none }

/-- The selector byte and its operand bytes, where the map's selector stands in the datagram. -/
def placeWord (m : SelMap) (w : List Byte) (s : State) : State :=
  match m with
  | .endpoint => placed .endpoint 8 .h2d (loadBytes 2 (0x01#8 :: w)) s
  | .h2dControl =>
    placed .h2dControl 8 .h2d (loadBytes 2 [0x01#8, 0x02#8] ++ loadBytes 8 (0x7F#8 :: 0x7F#8 :: 0x7F#8 :: w)) s
  | .d2hControl => placed .d2hControl 8 .d2h (loadBytes 2 [0x01#8, 0x06#8] ++ loadBytes 11 w) s
  | _ => placed .status 0 .h2d (loadBytes 2 w) s

/-- The word of the opcode table placed in the map that `decodeTableWord` reads it in. -/
def placeTableWord (s : State) (nbits w : Nat) : State :=
  match bytesOfNat (nbits / 8) w with
  | [] => s
  | b :: rest => placeWord (tableMap b) (b :: rest.take 1000) s

end Sys2Proof.Machine
end

