-- ==== Sys2Proof/Machine/Step.lean ====
section
/-! DEFINITION. One step: the next selector word is fetched, decoded and executed; between transactions the oldest pending
transaction starts. -/

namespace Sys2Proof.Machine

/-- One step of the machine. -/
def step (s : State) : Host.Outcome State Fault Refusal := stepBy Config.literals exec s

/-- The word of the opcode table stored where `step` fetches its next selector (log 2, log 3). -/
def State.withFetchWord (s : State) (nbits w : Nat) : State := placeTableWord s nbits w

end Sys2Proof.Machine
end

