-- ==== Sys2Proof/Machine/Session.lean ====
section
/-! DEFINITION. Several sessions: any number of independent instances (spec/60_exceptions.md rule R352). The caller picks
the instance of each step; the block carries no session key. -/

namespace Sys2Proof.Machine

/-- The instances of a caller's sessions. -/
abbrev Sessions := List State

/-- One step of instance `k`; no instance at `k` means nothing to step (log 20). -/
def sessionStep (k : Nat) (ss : Sessions) : Host.Outcome Sessions Fault Refusal :=
  match ss[k]? with
  | none => .next ss
  | some s =>
    match step s with
    | .next t => .next (ss.set k t)
    | .fault r => .fault r
    | .refused r => .refused r

end Sys2Proof.Machine
end

