-- ==== Sys2Proof/Safety.lean ====
section
/-! DEFINITION. What a safe state is: the invariants of an instance that claims use, and the bounded run of a DECODE. -/

namespace Sys2Proof.Machine

/-- The run flags that RUN_FLAGS_ENCODE can give (spec/42_control_h2d.md rule R182), and the reset value 0b000. -/
def legalRunFlags (rf : BitVec 3) : Bool := rf == 0b000#3 || rf == 0b011#3 || rf == 0b101#3 || rf == 0b111#3

/-- The invariant of an instance. -/
structure State.Inv (s : State) : Prop where
  /-- The buffer keeps its canonical form. -/
  bufferCanonical : Memory.wf s.dg = true
  /-- No byte stands at or beyond L (rule R50). -/
  bufferBelowLen : memoryBelow s.len s.dg = true
  /-- L is in 0..MAX_LEN (rule R21). -/
  lenBound : s.len ≤ Config.literals.maxLen
  /-- RC stays in 0..8 (rule R25). -/
  rcRange : s.rc.toNat ≤ 8
  /-- RF holds a value of RUN_FLAGS_ENCODE (rule R125). -/
  rfLegal : legalRunFlags s.rf = true
  /-- CUR never exceeds L (rule R28). -/
  curInBuffer : s.cur ≤ s.len
  /-- A DECODE in progress has no RESULT (rule R128). -/
  busyNoResult : s.phase ≠ .idle → s.result = none
  /-- A DECODE runs only on an instance that has received RESET (rule R372). -/
  busyInitialised : s.phase ≠ .idle → s.initialised = true
  /-- After a fatal error OUT is empty (rule R334). -/
  fatalEmpty : ∀ e, s.result = some (.fatal e) → s.out = []
  /-- A DECODE starts at CUR = 0 (rule R28). -/
  statusCursor : s.phase = .status → s.cur = 0
  /-- The endpoint's payload starts at offset 8 (rule R72). -/
  endpointCursor : s.phase = .endpoint → s.cur = 8
  /-- The Discovery payload starts at offset 3 (rules R79 and R80). -/
  discoveryCursor : s.phase = .discovery → s.cur = 3
  /-- The sample block starts at P + 8 (rule R157). -/
  sampleCursor : s.phase = .h2dSamples ∨ s.phase = .d2hSamples → s.cur = s.p + 8
  /-- DIR is the direction of the sub-frame being decoded (rules R151 and R155). -/
  dirH2d : s.phase = .h2dControl ∨ s.phase = .h2dSamples → s.dir = .h2d
  /-- The same for Device→Host. -/
  dirD2h : s.phase = .d2hControl ∨ s.phase = .d2hSamples → s.dir = .d2h

/-- An item of OUT is true of the datagram: a field lies within it and carries its bytes (rules R29 and R54). -/
def Item.trueOf (s : State) : Item → Prop
  | .field off len _ _ raw => off + len ≤ s.len ∧ raw = bytesAt s off len
  | .diag _ _ off => off ≤ s.len

/-- Every item of OUT is true of the datagram. -/
def State.OutTrue (s : State) : Prop := ∀ it ∈ s.out, it.trueOf s

/-- The state `k` steps on, if every step on the way gave a next state. -/
def stateAfter (k : Nat) (s : State) : Option State :=
  match k with
  | 0 => some s
  | k + 1 =>
    match step s with
    | .next t => stateAfter k t
    | .fault _ => none
    | .refused _ => none

end Sys2Proof.Machine
end

