-- ==== Sys2Proof/Certificates/Slice0/Obligations.lean ====
section
/-! DEFINITION. The statements for the provers. Each is written from the rules of spec/ it cites, with values computed
from the datagram's bytes directly (not through the model's layouts). -/

open Sys2Proof Sys2Proof.Machine

/-! ### The vocabulary of the statements -/

namespace Sys2Proof.Spec

/-- The machine's outcome type. -/
abbrev Step := Host.Outcome State Fault Refusal

/-- A decoded field with its raw bytes (rule R29). -/
def fieldAt (s : State) (off n : Nat) (name : FieldName) (v : Value) : Item := .field off n name v (bytesAt s off n)

/-- A field whose value is its bytes. -/
def bytesFieldAt (s : State) (off n : Nat) (name : FieldName) : Item := fieldAt s off n name (.bytes (bytesAt s off n))

/-- DG[a] as a number. -/
def u8 (s : State) (a : Nat) : Nat := (byteAt s a).toNat

/-- BE(a, 2) (rule R9). -/
def u16 (s : State) (a : Nat) : Nat := u8 s a * 256 + u8 s (a + 1)

/-- BE(a, 4) (rule R9). -/
def u32 (s : State) (a : Nat) : Nat := u8 s a * 16777216 + u8 s (a + 1) * 65536 + u8 s (a + 2) * 256 + u8 s (a + 3)

/-- The two's complement value of 2 bytes, most significant first (rule R89). -/
def s16 (s : State) (a : Nat) : Int := (byteAt s a ++ byteAt s (a + 1) : BitVec 16).toInt

/-- The two's complement value of 3 bytes, most significant first (rule R89). -/
def s24 (s : State) (a : Nat) : Int := (byteAt s a ++ byteAt s (a + 1) ++ byteAt s (a + 2) : BitVec 24).toInt

/-- A 1-bit field of the byte at `a` (rule R86). -/
def flagAt (s : State) (a i : Nat) (name : FieldName) : Item := fieldAt s a 1 name (.bool ((byteAt s a).getLsbD i))

/-- The field of `w` bits from bit `lo` up, of the byte at `a` (rule R86). -/
def bitsAt (s : State) (a lo w : Nat) (name : FieldName) : Item := fieldAt s a 1 name (.uint (u8 s a / 2 ^ lo % 2 ^ w))

/-- A version field (rule R90). -/
def verAt (s : State) (a : Nat) (name : FieldName) : Item := fieldAt s a 1 name (.ver (u8 s a / 10) (u8 s a % 10))

/-- A one-byte unsigned field. -/
def byteFieldAt (s : State) (a : Nat) (name : FieldName) : Item := fieldAt s a 1 name (.uint (u8 s a))

/-- rec10 of the bytes at `a` and `a + 1` (rule R85). -/
def ten (s : State) (a : Nat) : Nat := u8 s a * 4 + u8 s (a + 1) % 4

/-- The state after a fatal error taken in `s` (rules R334 and R340). That the dropped CUR reads 0 and that the other transient
registers keep their values (SKIP the one from before a sync search that failed) is the model's choice (log 6), and the phase field is the
model's (log 1). -/
def fatal (s : State) (e : Fatal) : State := { s with result := some (.fatal e), out := [], cur := 0, phase := .idle }

/-- The state after a DECODE that ends at CUR = `cur` having added `items` (rules R127 and R128). That the transient registers
and the inputs keep their last values is the model's choice (log 27), and the phase field is the model's (log 1). -/
def completed (s : State) (cur : Nat) (items : List Item) : State :=
  { s with
    cur := cur
    out := s.out ++ items ++
      (if s.sampled.strictSize = true ∧ cur < s.len then [Item.diag .extraBytes (s.len - cur) cur] else [])
    result := some .ok
    phase := .idle }

/-- The fields of HEADER (rule R111). -/
def headerItems (s : State) : List Item :=
  [fieldAt s 0 2 .protocol_id (.uint (u16 s 0)), fieldAt s 2 1 .status (.enum (u8 s 2))]

/-- The length of a pad region (rule R118). -/
def padLen (s : State) (nominal : Nat) : Nat := if s.sampled.strictPad = true then nominal else 1

/-- The table of rule R125: RF for each value of bits 1..0 of the run byte. -/
def runFlagsOf (w : Nat) : BitVec 3 :=
  if w % 4 = 0 then 0b000#3 else if w % 4 = 1 then 0b011#3 else if w % 4 = 2 then 0b101#3 else 0b111#3

/-- The fields that open a Host→Device sub-frame at P (rules R151 and R154). -/
def h2dHeadItems (s : State) (c0m : Nat) (mox : Bool) : List Item :=
  [bytesFieldAt s s.p 3 .sync] ++ (if 0 < s.skip then [Item.diag .lateSync s.skip s.p] else []) ++
    [fieldAt s (s.p + 3) 1 .c0_type (.enum c0m), fieldAt s (s.p + 3) 1 .mox (.bool mox)]

/-- The state after a Host→Device control record that emits `items` and writes nothing else. That CUR is P + 8 there is the
model's choice (log 17), and the phase field is the model's (log 1). -/
def afterH2d (s : State) (c0m : Nat) (mox : Bool) (items : List Item) : State :=
  { s with cur := s.p + 8, phase := .h2dSamples, out := s.out ++ h2dHeadItems s c0m mox ++ items }

/-- The fields that open a Device→Host sub-frame at P (rules R155 and R156). -/
def d2hHeadItems (s : State) (c0m : Nat) (dot dash ptt : Bool) : List Item :=
  [bytesFieldAt s s.p 3 .sync, fieldAt s (s.p + 3) 1 .c0_type (.enum c0m), fieldAt s (s.p + 3) 1 .ptt (.bool ptt),
    fieldAt s (s.p + 3) 1 .dash (.bool dash), fieldAt s (s.p + 3) 1 .dot (.bool dot)]

/-- The state after a Device→Host control record that emits `items`. That CUR is P + 8 there is the model's choice (log 17),
and the phase field is the model's (log 1). -/
def afterD2h (s : State) (c0m : Nat) (dot dash ptt : Bool) (items : List Item) : State :=
  { s with cur := s.p + 8, phase := .d2hSamples, out := s.out ++ d2hHeadItems s c0m dot dash ptt ++ items }

/-- The state after a sample block that emits `items`: slot 2 of the same direction, or the end of the DECODE (rules R114,
R115, R157, R158). -/
def afterBlock (s : State) (d : Dir) (items : List Item) : State :=
  if s.slot = .one then
    { s with cur := s.p + 512, dir := d, slot := .two, out := s.out ++ items, phase := if d = .h2d then .h2dControl else .d2hControl }
  else completed s (s.p + 512) items

/-- The fields of a Host→Device sample block at `b` (rules R300 and R301). -/
def h2dSampleItems (s : State) (b : Nat) : List Item :=
  (List.range 63).flatMap fun t =>
    [fieldAt s (b + 8 * t) 2 (.left t) (.sint (s16 s (b + 8 * t))),
      fieldAt s (b + 8 * t + 2) 2 (.right t) (.sint (s16 s (b + 8 * t + 2))),
      fieldAt s (b + 8 * t + 4) 2 (.i t) (.sint (s16 s (b + 8 * t + 4))),
      fieldAt s (b + 8 * t + 6) 2 (.q t) (.sint (s16 s (b + 8 * t + 6)))]

/-- The fields of a Device→Host sample block of `n` receivers at `b` (rule R305). -/
def d2hSampleItems (s : State) (n b : Nat) : List Item :=
  ((List.range (504 / (6 * n + 2))).flatMap fun t =>
    ((List.range n).flatMap fun r =>
      [fieldAt s (b + t * (6 * n + 2) + 6 * r) 3 (.rx_i (r + 1) t) (.sint (s24 s (b + t * (6 * n + 2) + 6 * r))),
        fieldAt s (b + t * (6 * n + 2) + 6 * r + 3) 3 (.rx_q (r + 1) t) (.sint (s24 s (b + t * (6 * n + 2) + 6 * r + 3)))])
    ++ [fieldAt s (b + t * (6 * n + 2) + 6 * n) 2 (.mic t) (.sint (s16 s (b + t * (6 * n + 2) + 6 * n)))])
  ++ (if 0 < 504 % (6 * n + 2) then
        [bytesFieldAt s (b + 504 / (6 * n + 2) * (6 * n + 2)) (504 % (6 * n + 2)) .pad]
      else [])

/-- The first field of a layout whose bytes pass `len` (rule R54). -/
def firstPast (len : Nat) (fs : List FieldSpec) : Option FieldSpec := fs.find? fun f => decide (len < f.off + f.n)

/-- Where the fields of a layout end if they follow one another from `b` without gap or overlap. -/
def tiles (b : Nat) : List FieldSpec → Option Nat
  | [] => some b
  | f :: fs => if f.off = b then tiles (b + f.n) fs else none

/-- The first and last codes of forward-power segment `j` (rule R274, constraint 2). -/
def segmentOf : Nat → Nat × Nat
  | 0 => (98, 874)
  | 1 => (874, 1380)
  | 2 => (1380, 2095)
  | 3 => (2095, 2615)
  | 4 => (2615, 3038)
  | _ => (3038, 4095)

/-- The constraints of rule R274. Continuity (constraint 3) is part of the second line: neighbouring closed segments share
their breakpoint, where both affine functions equal `f`. -/
def ForwardPowerAdmissible (f : Nat → Rat) : Prop :=
  (∃ m k : Nat → Rat, (∀ j < 5, m j ≠ m (j + 1)) ∧
    ∀ j ≤ 5, ∀ c, (segmentOf j).1 ≤ c → c ≤ (segmentOf j).2 → f c = m j * (c : Rat) + k j) ∧
  (∀ c < 4095, f c ≤ f (c + 1)) ∧ (∀ c ≤ 4095, 0 ≤ f c)

/-- The machine's next state changed by `f`. -/
def mapNext (f : State → State) : Step → Step
  | .next t => .next (f t)
  | .fault r => .fault r
  | .refused r => .refused r

end Sys2Proof.Spec

open Sys2Proof.Spec

/-! ### Header and status map -/

/-- HEADER (rule R111): its two fields, or Truncated(0, 3), which a step at the start of a DECODE (log 1) takes too. The state
after the error is `fatal` (log 6). -/
def Obligations.HeaderEmitsProtocolIdAndStatus : Prop :=
  ∀ s : State,
    (3 ≤ s.len → header s = .go { s with cur := 3, out := s.out ++ headerItems s }) ∧
    (s.len < 3 → header s = .trap (fatal s (.truncated 0 3)) ∧
      (s.phase = .status → step s = .next (fatal s (.truncated 0 3))))

/-- ST_DATA (rule R113): completion and result, and its errors, which come before the endpoint is dispatched on. -/
def Obligations.StDataEmitsEndpointAndSequence : Prop :=
  ∀ s : State,
    (8 ≤ s.len →
      exec .stData s = .next { s with
        cur := 8
        phase := .endpoint
        out := s.out ++ headerItems s ++
          [fieldAt s 3 1 .endpoint (.enum (u8 s 3)), fieldAt s 4 4 .sequence (.uint (u32 s 4))] }) ∧
    (s.len = 3 → exec .stData s = .next (fatal s (.truncated 3 1))) ∧
    (4 ≤ s.len → s.len ≤ 7 → exec .stData s = .next (fatal s (.truncated 4 4)))

/-- ST_DISCOVERY (rule R119). -/
def Obligations.StDiscoveryReachesTheDiscoveryDispatch : Prop :=
  ∀ s : State, 3 ≤ s.len →
    exec .stDiscovery s = .next { s with cur := 3, phase := .discovery, out := s.out ++ headerItems s }

/-- ST_SETIP (rule R123) with its pad (rule R118): completion (rules R127 and R128) and result, and Truncated at the first
field that does not fit. The state after the error is `fatal` (log 6). -/
def Obligations.StSetipEmitsMacAndAddress : Prop :=
  ∀ s : State,
    (13 + padLen s 8 ≤ s.len →
      exec .stSetip s = .next (completed s (13 + padLen s 8)
        (headerItems s ++
          [bytesFieldAt s 3 6 .mac, bytesFieldAt s 9 4 .ipv4, bytesFieldAt s 13 (padLen s 8) .pad]))) ∧
    (3 ≤ s.len → s.len < 9 → exec .stSetip s = .next (fatal s (.truncated 3 6))) ∧
    (9 ≤ s.len → s.len < 13 → exec .stSetip s = .next (fatal s (.truncated 9 4))) ∧
    (13 ≤ s.len → s.len < 13 + padLen s 8 → exec .stSetip s = .next (fatal s (.truncated 13 (padLen s 8))))

/-- ST_STARTSTOP (rule R124) with the RF table of rule R125: bit 0 of the run byte is IQ, bit 1 WB, START their OR. A
truncated pad does not undo RF (rule R335); without a run byte RF is not written. -/
def Obligations.StStartstopWritesTheRunFlags : Prop :=
  ∀ s : State,
    (4 + padLen s 60 ≤ s.len →
      exec .stStartstop s = .next { completed s (4 + padLen s 60)
        (headerItems s ++
          [flagAt s 3 0 .iq_stream, flagAt s 3 1 .wideband_stream, bytesFieldAt s 4 (padLen s 60) .pad]) with
        rf := runFlagsOf (u8 s 3) }) ∧
    (4 ≤ s.len → s.len < 4 + padLen s 60 →
      exec .stStartstop s = .next { fatal s (.truncated 4 (padLen s 60)) with rf := runFlagsOf (u8 s 3) }) ∧
    (s.len = 3 → exec .stStartstop s = .next (fatal s (.truncated 3 1)))

/-- ST_UNKNOWN and EP_UNKNOWN (rules R126 and R117): their own effect is the fatal error. -/
def Obligations.UnknownSelectorsAreFatal : Prop :=
  ∀ (s : State) (b : Byte),
    (3 ≤ s.len → exec (.stUnknown b) s = .next (fatal s (.unknownStatus b))) ∧
    exec (.epUnknown b) s = .next (fatal s (.unknownEndpoint b))

/-! ### Endpoint map -/

/-- EP2_H2D and EP6_D2H (rules R114 and R115): slot 1 starts at CUR. -/
def Obligations.EndpointsEnterTheirFirstSubframe : Prop :=
  ∀ s : State,
    exec .ep2H2d s = .next { s with dir := .h2d, slot := .one, phase := .h2dControl } ∧
    exec .ep6D2h s = .next { s with dir := .d2h, slot := .one, phase := .d2hControl }

/-- EP4_RAW (rule R116): 512 signed samples from CUR, or the first sample that does not fit. -/
def Obligations.Ep4EmitsItsSamples : Prop :=
  ∀ s : State,
    (s.cur + 1024 ≤ s.len →
      exec .ep4Raw s = .next (completed s (s.cur + 1024)
        ((List.range 512).map fun i =>
          fieldAt s (s.cur + 2 * i) 2 (.ep4_sample i) (.sint (s16 s (s.cur + 2 * i)))))) ∧
    (s.len < s.cur + 1024 →
      exec .ep4Raw s = .next (fatal s (.truncated (s.cur + 2 * ((s.len - s.cur) / 2)) 2)))

/-! ### Discovery -/

/-- DISC_QUERY, DISC_REPLY and DISC_REPLY_HL (rules R120 to R122): completion and result, and Truncated at the version
string or the pad. The replies' first three fields are checked by the dispatch below. -/
def Obligations.DiscoveryDatagramsEmitTheirFields : Prop :=
  ∀ s : State,
    (3 + padLen s 60 ≤ s.len →
      exec .discQuery s = .next (completed s (3 + padLen s 60)
        [fieldAt s 3 0 .discovery_query .marker, bytesFieldAt s 3 (padLen s 60) .pad])) ∧
    (3 ≤ s.len → s.len < 3 + padLen s 60 → exec .discQuery s = .next (fatal s (.truncated 3 (padLen s 60)))) ∧
    (∀ board : Byte, 11 ≤ s.len → s.len < 11 + padLen s 49 →
      exec (.discReply board) s = .next (fatal s (.truncated 11 (padLen s 49)))) ∧
    (11 ≤ s.len → s.len < 20 → exec .discReplyHl s = .next (fatal s (.truncated 11 9))) ∧
    (20 ≤ s.len → s.len < 20 + padLen s 40 →
      exec .discReplyHl s = .next (fatal s (.truncated 20 (padLen s 40)))) ∧
    (∀ board : Byte, 11 + padLen s 49 ≤ s.len →
      exec (.discReply board) s = .next (completed s (11 + padLen s 49)
        [bytesFieldAt s 3 6 .hw_address, verAt s 9 .version, fieldAt s 10 1 .board_id (.enum board.toNat),
          bytesFieldAt s 11 (padLen s 49) .pad])) ∧
    (20 + padLen s 40 ≤ s.len →
      exec .discReplyHl s = .next (completed s (20 + padLen s 40)
        [bytesFieldAt s 3 6 .hw_address, verAt s 9 .version, fieldAt s 10 1 .board_id (.enum 6),
          bytesFieldAt s 11 9 .hl_version_string, bytesFieldAt s 20 (padLen s 40) .pad]))

/-- The Discovery dispatch (rules R119 and R98), for every value of WELL_KNOWN_PORT. A reply too short for its board id is
Truncated at the first field that does not fit (rule R121). -/
def Obligations.DiscoveryDispatchReadsPortThenBoard : Prop :=
  ∀ s : State, s.phase = .discovery →
    (s.dstPort ≠ s.wellKnownPort → s.len < 9 → step s = .next (fatal s (.truncated 3 6))) ∧
    (s.dstPort ≠ s.wellKnownPort → s.len = 9 → step s = .next (fatal s (.truncated 9 1))) ∧
    (s.dstPort ≠ s.wellKnownPort → s.len = 10 → step s = .next (fatal s (.truncated 10 1))) ∧
    (s.dstPort = s.wellKnownPort → step s = exec .discQuery s) ∧
    (s.dstPort ≠ s.wellKnownPort → 11 ≤ s.len → u8 s 10 = 6 → step s = exec .discReplyHl s) ∧
    (s.dstPort ≠ s.wellKnownPort → 11 ≤ s.len → u8 s 10 ≠ 6 → step s = exec (.discReply (byteAt s 10)) s)

/-! ### Host→Device control records -/

/-- H2D_CONFIG (rule R181) with the guard of rule R182. -/
def Obligations.H2dConfigEmitsFieldsAndLearnsReceiverCount : Prop :=
  ∀ (s : State) (mox : Bool), s.p + 8 ≤ s.len →
    exec (.h2dConfig mox) s = .next { afterH2d s 0x00 mox
      [bitsAt s (s.p + 4) 0 2 .speed, bitsAt s (s.p + 4) 2 2 .ref_10mhz_source, flagAt s (s.p + 4) 4 .ref_122mhz_source,
        bitsAt s (s.p + 4) 5 2 .config, flagAt s (s.p + 4) 7 .mic_source,
        flagAt s (s.p + 5) 0 .mode, flagAt s (s.p + 5) 1 (.oc_output 1), flagAt s (s.p + 5) 2 (.oc_output 2),
        flagAt s (s.p + 5) 3 (.oc_output 3), flagAt s (s.p + 5) 4 (.oc_output 4), flagAt s (s.p + 5) 5 (.oc_output 5),
        flagAt s (s.p + 5) 6 (.oc_output 6),
        bitsAt s (s.p + 6) 0 2 .preselector_attenuator, flagAt s (s.p + 6) 2 .preamp, flagAt s (s.p + 6) 3 .if_dither,
        flagAt s (s.p + 6) 4 .if_random, bitsAt s (s.p + 6) 5 2 .preselector_antenna,
        flagAt s (s.p + 6) 7 .preselector_rx_out,
        bitsAt s (s.p + 7) 0 2 .tx_relay, flagAt s (s.p + 7) 2 .duplex,
        fieldAt s (s.p + 7) 1 .receiver_count (.uint (u8 s (s.p + 7) / 8 % 8 + 1)),
        flagAt s (s.p + 7) 6 .mic_timestamp, flagAt s (s.p + 7) 7 .common_mercury_freq] with
      rc := if s.rf = 0b000#3 ∨ s.rf = 0b101#3 then BitVec.ofNat 4 (u8 s (s.p + 7) / 8 % 8 + 1) else s.rc }

/-- The eight frequency records (rules R183 to R190), behind the head fields of rules R151 and R154. The state after the record
is `afterH2d`, whose CUR = P + 8 is the model's choice (log 17). -/
def Obligations.H2dFrequencyRecordsEmitTheFrequency : Prop :=
  ∀ (s : State) (mox : Bool), s.p + 8 ≤ s.len →
    exec (.h2dTxFreq mox) s = .next (afterH2d s 0x02 mox [fieldAt s (s.p + 4) 4 .tx_freq_hz (.uint (u32 s (s.p + 4)))]) ∧
    exec (.h2dRx1Freq mox) s = .next (afterH2d s 0x04 mox [fieldAt s (s.p + 4) 4 (.rx_freq_hz 1) (.uint (u32 s (s.p + 4)))]) ∧
    exec (.h2dRx2Freq mox) s = .next (afterH2d s 0x06 mox [fieldAt s (s.p + 4) 4 (.rx_freq_hz 2) (.uint (u32 s (s.p + 4)))]) ∧
    exec (.h2dRx3Freq mox) s = .next (afterH2d s 0x08 mox [fieldAt s (s.p + 4) 4 (.rx_freq_hz 3) (.uint (u32 s (s.p + 4)))]) ∧
    exec (.h2dRx4Freq mox) s = .next (afterH2d s 0x0A mox [fieldAt s (s.p + 4) 4 (.rx_freq_hz 4) (.uint (u32 s (s.p + 4)))]) ∧
    exec (.h2dRx5Freq mox) s = .next (afterH2d s 0x0C mox [fieldAt s (s.p + 4) 4 (.rx_freq_hz 5) (.uint (u32 s (s.p + 4)))]) ∧
    exec (.h2dRx6Freq mox) s = .next (afterH2d s 0x0E mox [fieldAt s (s.p + 4) 4 (.rx_freq_hz 6) (.uint (u32 s (s.p + 4)))]) ∧
    exec (.h2dRx7Freq mox) s = .next (afterH2d s 0x10 mox [fieldAt s (s.p + 4) 4 (.rx_freq_hz 7) (.uint (u32 s (s.p + 4)))])

/-- H2D_DRIVE_FILTERS (rule R191), for the default FIELD_TABLES (log 9). -/
def Obligations.H2dDriveFiltersEmitsDriveLevelAndBooleans : Prop :=
  ∀ (s : State) (mox : Bool), s.p + 8 ≤ s.len →
    exec (.h2dDriveFilters mox) s = .next (afterH2d s 0x12 mox
      [byteFieldAt s (s.p + 4) .drive_level,
        flagAt s (s.p + 5) 0 .mic_boost, flagAt s (s.p + 5) 1 .mic_line_in, flagAt s (s.p + 5) 2 .apollo_filter,
        flagAt s (s.p + 5) 3 .apollo_tuner, flagAt s (s.p + 5) 4 .apollo_auto_tune,
        flagAt s (s.p + 5) 5 .filter_board_select, flagAt s (s.p + 5) 6 .manual_filter_select,
        flagAt s (s.p + 5) 7 .vna_mode,
        flagAt s (s.p + 6) 0 .hpf_13mhz, flagAt s (s.p + 6) 1 .hpf_20mhz, flagAt s (s.p + 6) 2 .hpf_9_5mhz,
        flagAt s (s.p + 6) 3 .hpf_6_5mhz, flagAt s (s.p + 6) 4 .hpf_1_5mhz, flagAt s (s.p + 6) 5 .hpf_bypass,
        flagAt s (s.p + 6) 6 .lna_6m, flagAt s (s.p + 6) 7 .tr_relay_disable,
        flagAt s (s.p + 7) 0 .lpf_30_20m, flagAt s (s.p + 7) 1 .lpf_60_40m, flagAt s (s.p + 7) 2 .lpf_80m,
        flagAt s (s.p + 7) 3 .lpf_160m, flagAt s (s.p + 7) 4 .lpf_6m, flagAt s (s.p + 7) 5 .lpf_12_10m,
        flagAt s (s.p + 7) 6 .lpf_17_15m, flagAt s (s.p + 7) 7 (.c_bit 4 7)])

/-- H2D_PREAMP_MIC_ADC1 (rule R192), for the default FIELD_TABLES (log 9). -/
def Obligations.H2dPreampMicAdc1EmitsItsFields : Prop :=
  ∀ (s : State) (mox : Bool), s.p + 8 ≤ s.len →
    exec (.h2dPreampMicAdc1 mox) s = .next (afterH2d s 0x14 mox
      [flagAt s (s.p + 4) 0 (.rx_preamp 1), flagAt s (s.p + 4) 1 (.rx_preamp 2), flagAt s (s.p + 4) 2 (.rx_preamp 3),
        flagAt s (s.p + 4) 3 (.rx_preamp 4), flagAt s (s.p + 4) 4 .orion_mic_tip_ring,
        flagAt s (s.p + 4) 5 .orion_mic_bias, flagAt s (s.p + 4) 6 .orion_mic_ptt, flagAt s (s.p + 4) 7 (.c_bit 1 7),
        bitsAt s (s.p + 5) 0 5 .codec_line_gain, flagAt s (s.p + 5) 5 (.c_bit 2 5), flagAt s (s.p + 5) 6 .puresignal,
        flagAt s (s.p + 5) 7 (.c_bit 2 7),
        flagAt s (s.p + 6) 0 (.open_drain 1), flagAt s (s.p + 6) 1 (.open_drain 2), flagAt s (s.p + 6) 2 (.open_drain 3),
        flagAt s (s.p + 6) 3 (.open_drain 4), flagAt s (s.p + 6) 4 (.c_bit 3 4), flagAt s (s.p + 6) 5 (.c_bit 3 5),
        flagAt s (s.p + 6) 6 (.c_bit 3 6), flagAt s (s.p + 6) 7 (.c_bit 3 7),
        bitsAt s (s.p + 7) 0 5 (.adc_attenuation 1), flagAt s (s.p + 7) 5 (.adc_attenuation_enable 1),
        flagAt s (s.p + 7) 6 (.c_bit 4 6), flagAt s (s.p + 7) 7 (.c_bit 4 7)])

/-- H2D_ADC23_KEYER (rule R193), for the default FIELD_TABLES (log 9). -/
def Obligations.H2dAdc23KeyerEmitsItsFields : Prop :=
  ∀ (s : State) (mox : Bool), s.p + 8 ≤ s.len →
    exec (.h2dAdc23Keyer mox) s = .next (afterH2d s 0x16 mox
      [bitsAt s (s.p + 4) 0 5 (.adc_attenuation 2), flagAt s (s.p + 4) 5 (.adc_attenuation_enable 2),
        flagAt s (s.p + 4) 6 (.c_bit 1 6), flagAt s (s.p + 4) 7 (.c_bit 1 7),
        bitsAt s (s.p + 5) 0 5 (.adc_attenuation 3), flagAt s (s.p + 5) 5 (.adc_attenuation_enable 3),
        flagAt s (s.p + 5) 6 .cw_reversed, flagAt s (s.p + 5) 7 (.c_bit 2 7),
        bitsAt s (s.p + 6) 0 6 .cw_keyer_speed, bitsAt s (s.p + 6) 6 2 .cw_keyer_mode,
        bitsAt s (s.p + 7) 0 7 .cw_keyer_weight, flagAt s (s.p + 7) 7 .cw_keyer_spacing])

/-- H2D_MERCURY1_RSVD, H2D_MERCURY2_RSVD and H2D_UNKNOWN (rules R194, R195, R200): one opaque field, and no error. -/
def Obligations.H2dReservedRecordsAreOpaque : Prop :=
  ∀ (s : State) (mox : Bool), s.p + 8 ≤ s.len →
    exec (.h2dMercury1Rsvd mox) s = .next (afterH2d s 0x18 mox [bytesFieldAt s (s.p + 4) 4 (.mercury_reserved 1)]) ∧
    exec (.h2dMercury2Rsvd mox) s = .next (afterH2d s 0x1A mox [bytesFieldAt s (s.p + 4) 4 (.mercury_reserved 2)]) ∧
    ∀ sel : BitVec 7,
      exec (.h2dUnknown sel mox) s = .next (afterH2d s (2 * sel.toNat) mox [bytesFieldAt s (s.p + 4) 4 .control_raw])

/-- H2D_ADC_ASSIGN (rule R196), for the default FIELD_TABLES (log 9). -/
def Obligations.H2dAdcAssignEmitsItsFields : Prop :=
  ∀ (s : State) (mox : Bool), s.p + 8 ≤ s.len →
    exec (.h2dAdcAssign mox) s = .next (afterH2d s 0x1C mox
      [bitsAt s (s.p + 4) 0 2 (.rx_adc 1), bitsAt s (s.p + 4) 2 2 (.rx_adc 2), bitsAt s (s.p + 4) 4 2 (.rx_adc 3),
        bitsAt s (s.p + 4) 6 2 (.rx_adc 4), bitsAt s (s.p + 5) 0 2 (.rx_adc 5), bitsAt s (s.p + 5) 2 2 (.rx_adc 6),
        bitsAt s (s.p + 5) 4 2 (.rx_adc 7), bitsAt s (s.p + 6) 0 5 .tx_adc_attenuation,
        flagAt s (s.p + 6) 5 (.c_bit 3 5), flagAt s (s.p + 6) 6 (.c_bit 3 6), flagAt s (s.p + 6) 7 (.c_bit 3 7)])

/-- H2D_CW_SIDETONE_PTT and H2D_CW_HANG_TONE (rules R197 and R198): the hang time is signed and not clamped. -/
def Obligations.H2dCwRecordsEmitTheirFields : Prop :=
  ∀ (s : State) (mox : Bool), s.p + 8 ≤ s.len →
    exec (.h2dCwSidetonePtt mox) s = .next (afterH2d s 0x1E mox
      [flagAt s (s.p + 4) 0 .cw_source, byteFieldAt s (s.p + 5) .sidetone_volume, byteFieldAt s (s.p + 6) .ptt_delay_ms]) ∧
    exec (.h2dCwHangTone mox) s = .next (afterH2d s 0x20 mox
      [fieldAt s (s.p + 4) 2 .cw_hang_time (.sint ((ten s (s.p + 4) : Int) - 10)),
        fieldAt s (s.p + 6) 2 .cw_sidetone_freq (.uint (ten s (s.p + 6)))])

/-- H2D_PWM (rule R199), behind the head fields of rules R151 and R154. The state after the record is `afterH2d`, whose
CUR = P + 8 is the model's choice (log 17). -/
def Obligations.H2dPwmEmitsMinAndMax : Prop :=
  ∀ (s : State) (mox : Bool), s.p + 8 ≤ s.len →
    exec (.h2dPwm mox) s = .next (afterH2d s 0x22 mox
      [fieldAt s (s.p + 4) 2 .pwm_min (.uint (ten s (s.p + 4))), fieldAt s (s.p + 6) 2 .pwm_max (.uint (ten s (s.p + 6)))])

/-- The 4-byte payload of a record of either direction is checked as a whole (rules R54, R151, R155). -/
def Obligations.ControlPayloadIsCheckedAsAWhole : Prop :=
  ∀ (i : Instr) (s : State), i.selMap = .h2dControl ∨ i.selMap = .d2hControl →
    s.p + 4 ≤ s.len → s.len < s.p + 8 → exec i s = .next (fatal s (.truncated (s.p + 4) 4))

/-- The default FIELD_TABLES is admitted, and every admitted table keeps its fields inside the payload C1..C4 of the
record (rule R201). -/
def Obligations.AdmittedFieldTablesStayInsideThePayload : Prop :=
  fieldTables.admitted = true ∧
  ∀ (t : FieldTables) (q : Nat), t.admitted = true →
    ∀ f ∈ driveFiltersLayout t q ++ preampMicAdc1Layout t q ++ adc23KeyerLayout t q ++ adcAssignLayout t q,
      q ≤ f.off ∧ f.off + f.n ≤ q + 4

/-! ### Device→Host control records -/

/-- D2H_INFO (rule R241). -/
def Obligations.D2hInfoEmitsFlagsAndVersions : Prop :=
  ∀ (s : State) (dot dash ptt : Bool), s.p + 8 ≤ s.len →
    exec (.d2hInfo dot dash ptt) s = .next (afterD2h s 0x00 dot dash ptt
      [flagAt s (s.p + 4) 0 .adc_overflow, flagAt s (s.p + 4) 1 (.hermes_io 1), flagAt s (s.p + 4) 2 (.hermes_io 2),
        flagAt s (s.p + 4) 3 (.hermes_io 3), flagAt s (s.p + 4) 4 (.hermes_io 4), flagAt s (s.p + 4) 5 .pll_locked,
        flagAt s (s.p + 4) 6 .freq_changed, verAt s (s.p + 5) .mercury_version, verAt s (s.p + 6) .penelope_version,
        verAt s (s.p + 7) .interface_version])

/-- D2H_FWD_POWER, D2H_REV_POWER and D2H_SUPPLY (rules R242 to R244), with the formulas of 44_numeric.md written out;
the forward power is the OPEN parameter, whatever its value (log 8). -/
def Obligations.D2hMeasurementsEmitConvertedCodes : Prop :=
  ∀ (s : State) (dot dash ptt : Bool), s.p + 8 ≤ s.len →
    exec (.d2hFwdPower dot dash ptt) s = .next (afterD2h s 0x08 dot dash ptt
      [fieldAt s (s.p + 4) 2 .forward_power_w (.real (fwdPowerW (u16 s (s.p + 4)))),
        fieldAt s (s.p + 6) 2 .forward_power_2_w (.real ((u16 s (s.p + 6) : Rat) ^ 2 * 121 / 16769025))]) ∧
    exec (.d2hRevPower dot dash ptt) s = .next (afterD2h s 0x10 dot dash ptt
      [fieldAt s (s.p + 4) 2 .reverse_power_w (.real (((u16 s (s.p + 4) - 10 : Nat) : Rat) ^ 2 * 121 / 16769025)),
        fieldAt s (s.p + 6) 2 .ain3 (.uint (u16 s (s.p + 6)))]) ∧
    exec (.d2hSupply dot dash ptt) s = .next (afterD2h s 0x18 dot dash ptt
      [fieldAt s (s.p + 4) 2 .ain4 (.uint (u16 s (s.p + 4))),
        fieldAt s (s.p + 6) 2 .supply_volts (.real ((u16 s (s.p + 6) : Rat) * 506 / 93275))])

/-- D2H_ADC_OVERFLOW (rule R245). -/
def Obligations.D2hAdcOverflowEmitsFourUnits : Prop :=
  ∀ (s : State) (dot dash ptt : Bool), s.p + 8 ≤ s.len →
    exec (.d2hAdcOverflow dot dash ptt) s = .next (afterD2h s 0x20 dot dash ptt
      [flagAt s (s.p + 4) 0 (.adc_unit_overflow 1), bitsAt s (s.p + 4) 1 7 (.adc_unit_version 1),
        flagAt s (s.p + 5) 0 (.adc_unit_overflow 2), bitsAt s (s.p + 5) 1 7 (.adc_unit_version 2),
        flagAt s (s.p + 6) 0 (.adc_unit_overflow 3), bitsAt s (s.p + 6) 1 7 (.adc_unit_version 3),
        flagAt s (s.p + 7) 0 (.adc_unit_overflow 4), bitsAt s (s.p + 7) 1 7 (.adc_unit_version 4)])

/-- D2H_UNKNOWN (rule R246): one opaque field, and no error, behind the head fields of rules R155 and R156. The state after
the record is `afterD2h`, whose CUR = P + 8 is the model's choice (log 17). -/
def Obligations.D2hUnknownIsOpaque : Prop :=
  ∀ (s : State) (sel : BitVec 5) (dot dash ptt : Bool), s.p + 8 ≤ s.len →
    exec (.d2hUnknown sel dot dash ptt) s = .next (afterD2h s (8 * sel.toNat) dot dash ptt
      [bytesFieldAt s (s.p + 4) 4 .control_raw])

/-! ### Sample blocks -/

/-- SB_H2D (rules R300 and R301): 252 samples and the end of the sub-frame, or the first sample field that passes L. -/
def Obligations.SbH2dEmits252SamplesAndEndsTheSubframe : Prop :=
  ∀ s : State,
    (s.p + 512 ≤ s.len → exec .sbH2d s = .next (afterBlock s .h2d (h2dSampleItems s (s.p + 8)))) ∧
    (s.len < s.p + 512 →
      exec .sbH2d s = .next (fatal s (.truncated (s.p + 8 + 2 * ((s.len - (s.p + 8)) / 2)) 2)))

/-- SB_D2H_BLOB (rule R303), which RC = 0 selects (rules R93 and R302): one opaque field and the end of the sub-frame (rules
R157 and R158) or of the DECODE (rules R127 and R128), or Truncated. The state after the error is `fatal` (log 6). -/
def Obligations.SbD2hBlobIsOneOpaqueField : Prop :=
  ∀ s : State,
    (s.phase = .d2hSamples → s.rc = 0#4 → step s = exec .sbD2hBlob s) ∧
    (s.p + 512 ≤ s.len →
      exec .sbD2hBlob s = .next (afterBlock s .d2h [bytesFieldAt s (s.p + 8) 504 .samples_raw])) ∧
    (s.len < s.p + 512 → exec .sbD2hBlob s = .next (fatal s (.truncated (s.p + 8) 504)))

/-- SB_D2H_ONE and SB_D2H_MULTI (rules R304, R305, R307), for every receiver count, the unreachable ones too: completion and
result; the value of RC that selects each (rules R93 and R302); the layout's fields, which are those of the result in order;
and, where the block passes L, Truncated at the first field of the layout that passes L, since each field has its own Need
(rule R305). The state after the error is `fatal` (log 6). -/
def Obligations.SbD2hTuplesEmitIqPairsThenMicThenPad : Prop :=
  ∀ s : State,
    (s.p + 512 ≤ s.len →
      exec .sbD2hOne s = .next (afterBlock s .d2h (d2hSampleItems s 1 (s.p + 8))) ∧
      ∀ n : Nat, 2 ≤ n → exec (.sbD2hMulti n) s = .next (afterBlock s .d2h (d2hSampleItems s n (s.p + 8)))) ∧
    (s.phase = .d2hSamples →
      (s.rc = 1#4 → step s = exec .sbD2hOne s) ∧ (2 ≤ s.rc.toNat → step s = exec (.sbD2hMulti s.rc.toNat) s)) ∧
    (∀ n : Nat, 1 ≤ n → (d2hBlock n (s.p + 8)).map (fieldItem s) = d2hSampleItems s n (s.p + 8)) ∧
    (s.len < s.p + 512 →
      (∃ f, firstPast s.len (d2hBlock 1 (s.p + 8)) = some f ∧
        exec .sbD2hOne s = .next (fatal s (.truncated f.off f.n))) ∧
      ∀ n : Nat, 2 ≤ n → ∃ f, firstPast s.len (d2hBlock n (s.p + 8)) = some f ∧
        exec (.sbD2hMulti n) s = .next (fatal s (.truncated f.off f.n)))

/-- Every layout covers the block's 504 bytes, in order, without gap or overlap (rules R300, R306). -/
def Obligations.EverySampleLayoutTilesTheBlock : Prop :=
  ∀ b : Nat, tiles b (h2dBlock b) = some (b + 504) ∧ ∀ n : Nat, 1 ≤ n → tiles b (d2hBlock n b) = some (b + 504)

/-- The degenerate strides (rule R307), said of the layout: no tuple for n >= 84, exactly one for n in 42..83; and at least
one for n in 1..83, at least two for n in 1..41, so that the bounds are exact. -/
def Obligations.DegenerateStridesHaveOnlyPad : Prop :=
  ∀ n b : Nat,
    (84 ≤ n → d2hBlock n b = [⟨b, 504, .pad, .bytes⟩]) ∧
    (42 ≤ n → n ≤ 83 →
      d2hBlock n b = d2hTuple n b 0 ++ [⟨b + (6 * n + 2), 504 - (6 * n + 2), .pad, .bytes⟩]) ∧
    (1 ≤ n → n ≤ 83 → ∃ rest, d2hBlock n b = d2hTuple n b 0 ++ rest) ∧
    (1 ≤ n → n ≤ 41 → ∃ rest, d2hBlock n b = d2hTuple n b 0 ++ d2hTuple n (b + (6 * n + 2)) 1 ++ rest)

/-! ### Numbers -/

/-- rec10 (rule R85). -/
def Obligations.Rec10CombinesEightAndTwoBits : Prop :=
  (∀ a b : Byte, Sys2Proof.Machine.rec10 a b = a.toNat * 4 + b.toNat % 4 ∧ Sys2Proof.Machine.rec10 a b ≤ 1023) ∧
  Sys2Proof.Machine.rec10 0x0A#8 0x01#8 = 41

/-- The conversions (rules R271, R272, R273, R275), and their monotony (rule R278 a, b). -/
def Obligations.ConversionsFollowTheirFormulas : Prop :=
  (∀ c : Nat,
    volts c = (c : Rat) * 11 / 13650 ∧
    bridgeW c = (c : Rat) ^ 2 * 121 / 16769025 ∧
    revW c = ((c - 10 : Nat) : Rat) ^ 2 * 121 / 16769025 ∧
    supplyV c = (c : Rat) * 506 / 93275) ∧
  ∀ c d : Nat, c < d →
    volts c < volts d ∧ bridgeW c < bridgeW d ∧ supplyV c < supplyV d ∧ revW c ≤ revW d ∧
    (c ≤ 10 → revW c = 0) ∧ (10 ≤ c → revW c < revW d)

/-- The free forward-power function meets every constraint of rule R274, whatever the free values are (log 8). -/
def Obligations.ForwardPowerMeetsItsConstraints : Prop :=
  ForwardPowerAdmissible fwdPowerW ∧ ∀ low slope high : Nat → Rat, ForwardPowerAdmissible (fwdPowerFrom low slope high)

/-- Every admissible forward-power function is one the free values can give: the model rules none out (rule R274, log 8). -/
def Obligations.EveryAdmissibleForwardPowerIsAllowed : Prop :=
  ∀ f : Nat → Rat, ForwardPowerAdmissible f →
    ∃ low slope high : Nat → Rat, ∀ c : Nat, fwdPowerFrom low slope high c = f c

/-! ### Decoding -/

/-- A few selector words written out from rules R71, R73, R80, R91, R92, R93. -/
def Obligations.SelectorWordsDecodeToTheirRows : Prop :=
  decode .status [0x04#8] = .ok .stStartstop ∧ decode .endpoint [0x06#8] = .ok .ep6D2h ∧
  decode .discReply [0x06#8] = .ok .discReplyHl ∧ decode .h2dControl [0x23#8] = .ok (.h2dPwm true) ∧
  decode .h2dControl [0x24#8] = .ok (.h2dUnknown 0x12#7 false) ∧
  decode .d2hControl [0x1D#8] = .ok (.d2hSupply true false true) ∧
  decode .d2hControl [0x28#8] = .ok (.d2hUnknown 0x05#5 false false false) ∧
  decode .d2hSamples [0x03#8] = .ok (.sbD2hMulti 3)

/-- The selector maps (rules R71, R73, R80, R91, R92, R93), written as the spec's tables: for every selector byte, the row
of its value under the map's mask, with the operand bits (rules R77, R78). -/
def Obligations.SelectorMapsFollowTheTables : Prop :=
  (∀ b : Byte, decode .status [b] = .ok
    (if b = 0x01#8 then .stData else if b = 0x02#8 then .stDiscovery else if b = 0x03#8 then .stSetip
      else if b = 0x04#8 then .stStartstop else .stUnknown b)) ∧
  (∀ b : Byte, decode .endpoint [b] = .ok
    (if b = 0x02#8 then .ep2H2d else if b = 0x04#8 then .ep4Raw else if b = 0x06#8 then .ep6D2h else .epUnknown b)) ∧
  (∀ b : Byte, decode .discReply [b] = .ok (if b = 0x06#8 then .discReplyHl else .discReply b)) ∧
  (∀ (c0m : Byte) (mox : Bool), c0m &&& 0xFE#8 = c0m →
    decode .h2dControl [c0m ||| (if mox then 1#8 else 0#8)] = .ok
      (if c0m = 0x00#8 then .h2dConfig mox else if c0m = 0x02#8 then .h2dTxFreq mox
        else if c0m = 0x04#8 then .h2dRx1Freq mox else if c0m = 0x06#8 then .h2dRx2Freq mox
        else if c0m = 0x08#8 then .h2dRx3Freq mox else if c0m = 0x0A#8 then .h2dRx4Freq mox
        else if c0m = 0x0C#8 then .h2dRx5Freq mox else if c0m = 0x0E#8 then .h2dRx6Freq mox
        else if c0m = 0x10#8 then .h2dRx7Freq mox else if c0m = 0x12#8 then .h2dDriveFilters mox
        else if c0m = 0x14#8 then .h2dPreampMicAdc1 mox else if c0m = 0x16#8 then .h2dAdc23Keyer mox
        else if c0m = 0x18#8 then .h2dMercury1Rsvd mox else if c0m = 0x1A#8 then .h2dMercury2Rsvd mox
        else if c0m = 0x1C#8 then .h2dAdcAssign mox else if c0m = 0x1E#8 then .h2dCwSidetonePtt mox
        else if c0m = 0x20#8 then .h2dCwHangTone mox else if c0m = 0x22#8 then .h2dPwm mox
        else .h2dUnknown (BitVec.ofNat 7 (c0m.toNat / 2)) mox)) ∧
  (∀ (c0m : Byte) (dot dash ptt : Bool), c0m &&& 0xF8#8 = c0m →
    decode .d2hControl [c0m ||| (if dot then 4#8 else 0#8) ||| (if dash then 2#8 else 0#8) ||| (if ptt then 1#8 else 0#8)] = .ok
      (if c0m = 0x00#8 then .d2hInfo dot dash ptt else if c0m = 0x08#8 then .d2hFwdPower dot dash ptt
        else if c0m = 0x10#8 then .d2hRevPower dot dash ptt else if c0m = 0x18#8 then .d2hSupply dot dash ptt
        else if c0m = 0x20#8 then .d2hAdcOverflow dot dash ptt
        else .d2hUnknown (BitVec.ofNat 5 (c0m.toNat / 8)) dot dash ptt)) ∧
  (∀ rc : BitVec 4, decode .d2hSamples [rc.setWidth 8] = .ok
    (if rc = 0#4 then .sbD2hBlob else if rc = 1#4 then .sbD2hOne else .sbD2hMulti rc.toNat)) ∧
  decode .h2dSamples [] = .ok .sbH2d ∧ decode .discQuery [] = .ok .discQuery

/-- Decode and encode agree on every well-formed instruction. -/
def Obligations.DecodeOfEncodeIsTheInstruction : Prop :=
  ∀ i : Instr, i.wf = true → decode i.selMap (encode i) = .ok i

/-- Whatever decodes is well-formed, belongs to its map, and its encoding is the word's own selector: no selector word
stands for two instructions and none is read in part. -/
def Obligations.EncodeOfDecodeIsTheSelector : Prop :=
  ∀ (m : SelMap) (w : List Byte) (i : Instr), decode m w = .ok i → i.wf = true ∧ i.selMap = m ∧ ∃ rest, w = encode i ++ rest

/-- A fetched word always decodes, and a fetch writes only P, SKIP, C0 and C0M. The selector is DG[2] at the start (rule
R71), DG[3] once the header of a DataTransfer is read (rule R73), DG[P + 3] in a sub-frame (rules R151 and R155), and RC at
a Device→Host sample block (rule R308). -/
def Obligations.EveryFetchedSelectorDecodes : Prop :=
  ∀ (s t : State) (m : SelMap) (w : List Byte), fetch s = .word m w t →
    (∃ i, decode m w = .ok i) ∧ t = { s with p := t.p, skip := t.skip, c0 := t.c0, c0m := t.c0m } ∧
    (s.phase = .status → m = .status ∧ w = [byteAt s 2]) ∧
    (s.phase = .endpoint → m = .endpoint ∧ w = [byteAt s 3]) ∧
    (s.phase = .h2dControl → m = .h2dControl ∧ w = [byteAt s (t.p + 3)]) ∧
    (s.phase = .d2hControl → m = .d2hControl ∧ w = [byteAt s (t.p + 3)]) ∧
    (s.phase = .h2dSamples → m = .h2dSamples ∧ w = []) ∧
    (s.phase = .d2hSamples → m = .d2hSamples ∧ w = [s.rc.setWidth 8])

/-- A step runs the decoded instruction. -/
def Obligations.StepRunsTheDecodedInstruction : Prop :=
  ∀ (s t : State) (m : SelMap) (w : List Byte) (i : Instr),
    fetch s = .word m w t → decode m w = .ok i → step s = exec i t

/-! ### Sub-frames and the sync search -/

/-- SYNC_LOCATE with SYNC_CHECK = 1 (rule R152): the first marker at or after the nominal start is found, with P, SKIP and
C0 set; a marker with no byte after it is Truncated at C0; without a marker the first 3-byte window that passes L is
Truncated. The state after the error is `fatal`, with SKIP from before the search (log 6). -/
def Obligations.SyncSearchFindsTheFirstMarker : Prop :=
  ∀ s : State, s.phase = .h2dControl → s.sampled.syncCheck = true →
    (∀ k : Nat, s.cur + k + 4 ≤ s.len →
      bytesAt s (s.cur + k) 3 = [0x7F#8, 0x7F#8, 0x7F#8] →
      (∀ j < k, bytesAt s (s.cur + j) 3 ≠ [0x7F#8, 0x7F#8, 0x7F#8]) →
      fetch s = .word .h2dControl [byteAt s (s.cur + k + 3)]
        { s with p := s.cur + k, skip := k, c0 := byteAt s (s.cur + k + 3), c0m := byteAt s (s.cur + k + 3) &&& 0xFE#8 }) ∧
    (∀ k : Nat, s.cur + k + 3 = s.len →
      bytesAt s (s.cur + k) 3 = [0x7F#8, 0x7F#8, 0x7F#8] →
      (∀ j < k, bytesAt s (s.cur + j) 3 ≠ [0x7F#8, 0x7F#8, 0x7F#8]) →
      step s = .next (fatal { s with p := s.cur + k, skip := k } (.truncated (s.cur + k + 3) 1))) ∧
    ((∀ j, s.cur + j + 3 ≤ s.len → bytesAt s (s.cur + j) 3 ≠ [0x7F#8, 0x7F#8, 0x7F#8]) →
      step s = .next (fatal s (.truncated (s.cur + (s.len - s.cur - 2)) 3)))

/-- SYNC_LOCATE with SYNC_CHECK = 0 (rule R153), and every Device→Host sub-frame (rule R155): P is the nominal start
whatever the three bytes there are, and a datagram that ends before C0 is Truncated. The state after the error is `fatal`, with
SKIP as it was if the sync bytes are missing (log 6). -/
def Obligations.UncheckedSyncIsTakenAtTheNominalStart : Prop :=
  ∀ s : State,
    (s.phase = .h2dControl → s.sampled.syncCheck = false → s.cur + 4 ≤ s.len →
      fetch s = .word .h2dControl [byteAt s (s.cur + 3)]
        { s with p := s.cur, skip := 0, c0 := byteAt s (s.cur + 3), c0m := byteAt s (s.cur + 3) &&& 0xFE#8 }) ∧
    (s.phase = .d2hControl → s.cur + 4 ≤ s.len →
      fetch s = .word .d2hControl [byteAt s (s.cur + 3)]
        { s with p := s.cur, skip := 0, c0 := byteAt s (s.cur + 3), c0m := byteAt s (s.cur + 3) &&& 0xF8#8 }) ∧
    ((s.phase = .h2dControl ∧ s.sampled.syncCheck = false) ∨ s.phase = .d2hControl →
      (s.len < s.cur + 3 → step s = .next (fatal s (.truncated s.cur 3))) ∧
      (s.len = s.cur + 3 →
        step s = .next (fatal { s with p := s.cur, skip := 0 } (.truncated (s.cur + 3) 1))))

/-- Sub-frame extent and slot sequencing (rules R157 and R158). -/
def Obligations.EverySubframeEnds512BytesAfterItsSync : Prop :=
  ∀ s t u : State, s.phase = .h2dControl ∨ s.phase = .d2hControl →
    step s = .next t → t.phase ≠ .idle → step t = .next u → (∀ e, u.result ≠ some (.fatal e)) →
    t.p = s.cur + t.skip ∧ u.cur = t.p + 512 ∧
    (s.slot = .one → u.slot = .two ∧ u.phase = s.phase) ∧ (s.slot = .two → u.phase = .idle ∧ u.result = some .ok)

/-! ### Whole-machine rules -/

/-- The reset state (rules R38 and R370), where the spec states the value. -/
def Obligations.ResetStateHoldsTheStatedValues : Prop :=
  State.reset.rc = 0#4 ∧ State.reset.rf = 0b000#3 ∧ State.reset.inputs = ⟨true, true, true⟩ ∧
  State.reset.out = [] ∧ State.reset.result = none

/-- The reset state meets the invariant. -/
def Obligations.ResetStateMeetsTheInvariant : Prop := State.reset.Inv ∧ State.reset.OutTrue

/-- Every step keeps the invariant. -/
def Obligations.EveryStepKeepsTheInvariant : Prop := ∀ s t : State, s.Inv → step s = .next t → t.Inv

/-- Every step keeps OUT true of the datagram: each field lies within DG[0..L-1] and carries its bytes (rules R29, R54). -/
def Obligations.EveryStepKeepsOutTrueOfTheDatagram : Prop := ∀ s t : State, s.OutTrue → step s = .next t → t.OutTrue

/-- A DECODE always ends (rule R128): from any state with one in progress, within six steps, with a RESULT. -/
def Obligations.EveryDecodeEndsWithAResult : Prop :=
  ∀ s : State, s.phase ≠ .idle → ∃ k ≤ 6, ∃ t, stateAfter k s = some t ∧ t.phase = .idle ∧ t.result ≠ none

/-- Only H2D_CONFIG writes RC, only ST_STARTSTOP writes RF (rules R24 and R27), and RC only under the guard (rule R182). -/
def Obligations.OnlyTheirRulesWriteRcAndRf : Prop :=
  ∀ (i : Instr) (s t : State), exec i s = .next t →
    ((∀ mox, i ≠ .h2dConfig mox) → t.rc = s.rc) ∧ (i ≠ .stStartstop → t.rf = s.rf) ∧
    (s.rf ≠ 0b000#3 → s.rf ≠ 0b101#3 → t.rc = s.rc)

/-- What no instruction writes: the datagram and its length, the ports, the toggles (rules R22, R50, R63, R342), the
session's other inputs, and the registers that only a fetch writes. -/
def Obligations.NoInstructionWritesItsInputs : Prop :=
  ∀ (i : Instr) (s t : State), exec i s = .next t →
    t.dg = s.dg ∧ t.len = s.len ∧ t.srcPort = s.srcPort ∧ t.dstPort = s.dstPort ∧ t.inputs = s.inputs ∧
    t.sampled = s.sampled ∧ t.wellKnownPort = s.wellKnownPort ∧ t.pending = s.pending ∧ t.initialised = s.initialised ∧
    t.p = s.p ∧ t.skip = s.skip ∧ t.c0 = s.c0 ∧ t.c0m = s.c0m

/-- OUT is append-only unless a fatal error discards it (rules R51 and R334). -/
def Obligations.OutIsAppendOnlyOrDiscarded : Prop :=
  ∀ (i : Instr) (s t : State), exec i s = .next t →
    (∃ e, t = fatal { s with rc := t.rc, rf := t.rf } e) ∨ ∃ items, t.out = s.out ++ items

/-- CUR never decreases within a DECODE (rule R28). -/
def Obligations.CursorNeverDecreasesWithinADecode : Prop :=
  ∀ s t : State, s.Inv → s.phase ≠ .idle → step s = .next t → (∀ e, t.result ≠ some (.fatal e)) →
    s.cur ≤ t.cur ∧ t.cur ≤ t.len

/-- Nothing an instruction meets stops the machine: it has a next state in every state (rules R128, R333, R338). -/
def Obligations.EveryInstructionHasANextState : Prop :=
  (∀ (i : Instr) (s : State), ∃ t, exec i s = .next t) ∧ ∀ s : State, s.phase ≠ .idle → ∃ t, step s = .next t

/-- No rule reads SRC_PORT (rule R129), and only the Discovery dispatch reads DST_PORT (rule R21). -/
def Obligations.PortsDoNotReachOtherRules : Prop :=
  ∀ (s : State) (x : Port),
    (s.phase ≠ .idle →
      step { s with srcPort := x } = mapNext (fun t => { t with srcPort := x }) (step s)) ∧
    (s.phase ≠ .idle → s.phase ≠ .discovery →
      step { s with dstPort := x } = mapNext (fun t => { t with dstPort := x }) (step s))

/-- ExtraBytes (rule R127): the last item of a DECODE that still ends in OK (rules R110 and R128) and leaves the block idle (rule
R346; the phase field is the model's, log 1); without trailing bytes or with STRICT_SIZE = 0 nothing is added. That the
transient registers keep their values is the model's choice (log 27). -/
def Obligations.ExtraBytesReportsTheTrailingBytes : Prop :=
  ∀ s : State,
    (s.sampled.strictSize = true → s.cur < s.len →
      finish s = { s with
        out := s.out ++ [.diag .extraBytes (s.len - s.cur) s.cur], result := some .ok, phase := .idle }) ∧
    (s.sampled.strictSize = false ∨ s.len ≤ s.cur → finish s = { s with result := some .ok, phase := .idle })

/-! ### Transactions -/

/-- The start of a DECODE (rules R20 to R22, R28, R110): the toggles are sampled, the datagram is held byte for byte. -/
def Obligations.DecodeStartSamplesItsInputs : Prop :=
  ∀ (s : State) (bytes : List Byte) (src dst : Port) (rest : List Request),
    s.phase = .idle → s.initialised = true → s.pending = .decode bytes src dst :: rest → bytes.length ≤ 65535 →
    ∃ t, step s = .next t ∧ t.phase = .status ∧ t.cur = 0 ∧ t.out = [] ∧ t.result = none ∧ t.sampled = s.inputs ∧
      t.inputs = s.inputs ∧ t.len = bytes.length ∧ t.srcPort = src ∧ t.dstPort = dst ∧ t.rc = s.rc ∧ t.rf = s.rf ∧
      t.pending = rest ∧ ∀ a (h : a < bytes.length), byteAt t a = bytes[a]

/-- RESET (rules R370 and R371), a change of the configuration inputs (rule R380), and an idle block with nothing pending
(rule R346). That RESET also clears OUT and RESULT is the model's choice (log 5), and so are the idle step
(log 15) and that the transient registers keep their values (log 27). -/
def Obligations.ResetAndConfigureWriteOnlyTheirState : Prop :=
  ∀ s : State, s.phase = .idle →
    (s.pending = [] → step s = .next s) ∧
    ∀ rest : List Request,
      (s.pending = .reset :: rest →
        step s = .next
          { s with pending := rest, rc := 0#4, rf := 0b000#3, initialised := true, out := [], result := none }) ∧
      ∀ tg : Toggles, s.pending = .configure tg :: rest → step s = .next { s with pending := rest, inputs := tg }

/-- The transactions outside the model are refused by name (93_implementation_defined.md I19, I20; rules R21, R351, R372). -/
def Obligations.TransactionsOutsideTheModelAreRefused : Prop :=
  ∀ (s : State) (bytes : List Byte) (src dst : Port),
    (∀ r : Request, s.phase ≠ .idle → start r s = .refused .overlappingTransaction) ∧
    (s.phase = .idle → s.initialised = false → start (.decode bytes src dst) s = .refused .decodeBeforeReset) ∧
    (s.phase = .idle → s.initialised = true → 65535 < bytes.length →
      start (.decode bytes src dst) s = .refused .datagramTooLong)

/-- No state carries from one DECODE to the next other than RC and RF (rules R36 and R58): a DECODE that starts sees
nothing else of the transactions before it. -/
def Obligations.OnlyRcAndRfCarryOver : Prop :=
  ∀ (s₁ s₂ : State) (bytes : List Byte) (src dst : Port) (rest : List Request),
    s₁.phase = .idle → s₂.phase = .idle → s₁.rc = s₂.rc → s₁.rf = s₂.rf → s₁.inputs = s₂.inputs →
    s₁.initialised = s₂.initialised → s₁.wellKnownPort = s₂.wellKnownPort →
    s₁.pending = .decode bytes src dst :: rest → s₂.pending = .decode bytes src dst :: rest → step s₁ = step s₂

/-- Sessions do not interact (rules R64 and R352). -/
def Obligations.SessionsDoNotInteract : Prop :=
  ∀ (k j : Nat) (ss ss' : Sessions), sessionStep k ss = .next ss' → j ≠ k → ss'[j]? = ss[j]?
end

