-- ==== Sys2Proof/Laws/Memory.lean ====
section
/-! SUPPORT. The input buffer's canonical form: every operation that builds a buffer keeps it, and reset has it. -/

namespace Sys2Proof.Machine

theorem memoryWfFrom_mono {lo lo' : Nat} (h : lo' ≤ lo) {m : Memory} (hm : memoryWfFrom lo m = true) :
    memoryWfFrom lo' m = true := by
  cases m with
  | nil => rfl
  | cons c rest =>
    obtain ⟨a, b⟩ := c
    simp only [memoryWfFrom, Bool.and_eq_true, decide_eq_true_eq] at hm ⊢
    exact ⟨⟨by omega, hm.1.2⟩, hm.2⟩

/-- Loading bytes gives a canonical buffer. -/
theorem loadBytes_wfFrom (bs : List Byte) (a : Nat) : memoryWfFrom a (loadBytes a bs) = true := by
  induction bs generalizing a with
  | nil => rfl
  | cons b bs ih =>
    by_cases hb : b = 0#8
    · simpa [loadBytes, hb] using memoryWfFrom_mono (Nat.le_succ a) (ih (a + 1))
    · simp [loadBytes, hb, memoryWfFrom, ih (a + 1)]

theorem loadBytes_wf (bs : List Byte) (a : Nat) : Memory.wf (loadBytes a bs) = true :=
  memoryWfFrom_mono (Nat.zero_le a) (loadBytes_wfFrom bs a)

/-- Loading `n` bytes from `a` lists no cell at or beyond `a + n`. -/
theorem loadBytes_below (bs : List Byte) (a len : Nat) (h : a + bs.length ≤ len) :
    memoryBelow len (loadBytes a bs) = true := by
  induction bs generalizing a with
  | nil => rfl
  | cons b bs ih =>
    have hb : a + 1 + bs.length ≤ len := by simp at h; omega
    have ha : a < len := by simp at h; omega
    have hr : memoryBelow len (loadBytes (a + 1) bs) = true := ih (a + 1) hb
    by_cases h0 : b = 0#8
    · simpa [loadBytes, h0] using hr
    · simpa [loadBytes, h0, memoryBelow, ha] using hr

/-- Two canonical buffers, the first below the second, make a canonical buffer. -/
theorem memoryWfFrom_append {lo mid : Nat} {m m' : Memory} (hlo : lo ≤ mid) (h : memoryWfFrom lo m = true)
    (hb : memoryBelow mid m = true) (h' : memoryWfFrom mid m' = true) : memoryWfFrom lo (m ++ m') = true := by
  induction m generalizing lo with
  | nil => exact memoryWfFrom_mono hlo h'
  | cons c rest ih =>
    obtain ⟨a, b⟩ := c
    simp only [memoryWfFrom, Bool.and_eq_true, decide_eq_true_eq] at h
    simp only [memoryBelow, List.all_cons, Bool.and_eq_true, decide_eq_true_eq] at hb
    have hr : memoryWfFrom (a + 1) (rest ++ m') = true := ih (by omega) h.2 hb.2
    simp [memoryWfFrom, h.1.1, h.1.2, hr]

/-- A placed word leaves the buffer canonical. -/
theorem withFetchWord_wf (s : State) (nbits w : Nat) (hs : Memory.wf s.dg = true) :
    Memory.wf (s.withFetchWord nbits w).dg = true := by
  have hpair : ∀ (x y : Byte) (lo : Nat) (bs : List Byte), 4 ≤ lo →
      Memory.wf (loadBytes 2 [x, y] ++ loadBytes lo bs) = true := fun x y lo bs hlo =>
    memoryWfFrom_append (mid := lo) (Nat.zero_le _) (loadBytes_wf _ 2) (loadBytes_below _ _ _ (by simpa using hlo))
      (loadBytes_wfFrom bs lo)
  unfold State.withFetchWord placeTableWord
  split
  · exact hs
  · unfold placeWord
    split
    · exact loadBytes_wf _ _
    · exact hpair _ _ 8 _ (by omega)
    · exact hpair _ _ 11 _ (by omega)
    · exact loadBytes_wf _ _

theorem reset_memory_wf : Memory.wf State.reset.dg = true := rfl

end Sys2Proof.Machine
end

