-- ==== Sys2Proof/Laws/State.lean ====
section
/-! SUPPORT. One lemma per field for each update of State, true by rfl, so that no proof unfolds a record update; and the
same for the two updates that depend on a test. -/

namespace Sys2Proof.Machine

variable (s : State)

/-! ### push -/

@[simp] theorem push_rc (it : Item) : (push it s).rc = s.rc := rfl
@[simp] theorem push_rf (it : Item) : (push it s).rf = s.rf := rfl
@[simp] theorem push_initialised (it : Item) : (push it s).initialised = s.initialised := rfl
@[simp] theorem push_inputs (it : Item) : (push it s).inputs = s.inputs := rfl
@[simp] theorem push_sampled (it : Item) : (push it s).sampled = s.sampled := rfl
@[simp] theorem push_wellKnownPort (it : Item) : (push it s).wellKnownPort = s.wellKnownPort := rfl
@[simp] theorem push_pending (it : Item) : (push it s).pending = s.pending := rfl
@[simp] theorem push_phase (it : Item) : (push it s).phase = s.phase := rfl
@[simp] theorem push_dg (it : Item) : (push it s).dg = s.dg := rfl
@[simp] theorem push_len (it : Item) : (push it s).len = s.len := rfl
@[simp] theorem push_srcPort (it : Item) : (push it s).srcPort = s.srcPort := rfl
@[simp] theorem push_dstPort (it : Item) : (push it s).dstPort = s.dstPort := rfl
@[simp] theorem push_cur (it : Item) : (push it s).cur = s.cur := rfl
@[simp] theorem push_skip (it : Item) : (push it s).skip = s.skip := rfl
@[simp] theorem push_dir (it : Item) : (push it s).dir = s.dir := rfl
@[simp] theorem push_slot (it : Item) : (push it s).slot = s.slot := rfl
@[simp] theorem push_c0 (it : Item) : (push it s).c0 = s.c0 := rfl
@[simp] theorem push_c0m (it : Item) : (push it s).c0m = s.c0m := rfl
@[simp] theorem push_p (it : Item) : (push it s).p = s.p := rfl
@[simp] theorem push_out (it : Item) : (push it s).out = s.out ++ [it] := rfl
@[simp] theorem push_result (it : Item) : (push it s).result = s.result := rfl

/-! ### raise -/

@[simp] theorem raise_rc (e : Fatal) : (raise e s).rc = s.rc := rfl
@[simp] theorem raise_rf (e : Fatal) : (raise e s).rf = s.rf := rfl
@[simp] theorem raise_initialised (e : Fatal) : (raise e s).initialised = s.initialised := rfl
@[simp] theorem raise_inputs (e : Fatal) : (raise e s).inputs = s.inputs := rfl
@[simp] theorem raise_sampled (e : Fatal) : (raise e s).sampled = s.sampled := rfl
@[simp] theorem raise_wellKnownPort (e : Fatal) : (raise e s).wellKnownPort = s.wellKnownPort := rfl
@[simp] theorem raise_pending (e : Fatal) : (raise e s).pending = s.pending := rfl
@[simp] theorem raise_phase (e : Fatal) : (raise e s).phase = .idle := rfl
@[simp] theorem raise_dg (e : Fatal) : (raise e s).dg = s.dg := rfl
@[simp] theorem raise_len (e : Fatal) : (raise e s).len = s.len := rfl
@[simp] theorem raise_srcPort (e : Fatal) : (raise e s).srcPort = s.srcPort := rfl
@[simp] theorem raise_dstPort (e : Fatal) : (raise e s).dstPort = s.dstPort := rfl
@[simp] theorem raise_cur (e : Fatal) : (raise e s).cur = 0 := rfl
@[simp] theorem raise_skip (e : Fatal) : (raise e s).skip = s.skip := rfl
@[simp] theorem raise_dir (e : Fatal) : (raise e s).dir = s.dir := rfl
@[simp] theorem raise_slot (e : Fatal) : (raise e s).slot = s.slot := rfl
@[simp] theorem raise_c0 (e : Fatal) : (raise e s).c0 = s.c0 := rfl
@[simp] theorem raise_c0m (e : Fatal) : (raise e s).c0m = s.c0m := rfl
@[simp] theorem raise_p (e : Fatal) : (raise e s).p = s.p := rfl
@[simp] theorem raise_out (e : Fatal) : (raise e s).out = [] := rfl
@[simp] theorem raise_result (e : Fatal) : (raise e s).result = some (.fatal e) := rfl

/-! ### goto -/

@[simp] theorem goto_rc (v : Nat) (ph : Phase) : (goto v ph s).rc = s.rc := rfl
@[simp] theorem goto_rf (v : Nat) (ph : Phase) : (goto v ph s).rf = s.rf := rfl
@[simp] theorem goto_initialised (v : Nat) (ph : Phase) : (goto v ph s).initialised = s.initialised := rfl
@[simp] theorem goto_inputs (v : Nat) (ph : Phase) : (goto v ph s).inputs = s.inputs := rfl
@[simp] theorem goto_sampled (v : Nat) (ph : Phase) : (goto v ph s).sampled = s.sampled := rfl
@[simp] theorem goto_wellKnownPort (v : Nat) (ph : Phase) : (goto v ph s).wellKnownPort = s.wellKnownPort := rfl
@[simp] theorem goto_pending (v : Nat) (ph : Phase) : (goto v ph s).pending = s.pending := rfl
@[simp] theorem goto_phase (v : Nat) (ph : Phase) : (goto v ph s).phase = ph := rfl
@[simp] theorem goto_dg (v : Nat) (ph : Phase) : (goto v ph s).dg = s.dg := rfl
@[simp] theorem goto_len (v : Nat) (ph : Phase) : (goto v ph s).len = s.len := rfl
@[simp] theorem goto_srcPort (v : Nat) (ph : Phase) : (goto v ph s).srcPort = s.srcPort := rfl
@[simp] theorem goto_dstPort (v : Nat) (ph : Phase) : (goto v ph s).dstPort = s.dstPort := rfl
@[simp] theorem goto_cur (v : Nat) (ph : Phase) : (goto v ph s).cur = v := rfl
@[simp] theorem goto_skip (v : Nat) (ph : Phase) : (goto v ph s).skip = s.skip := rfl
@[simp] theorem goto_dir (v : Nat) (ph : Phase) : (goto v ph s).dir = s.dir := rfl
@[simp] theorem goto_slot (v : Nat) (ph : Phase) : (goto v ph s).slot = s.slot := rfl
@[simp] theorem goto_c0 (v : Nat) (ph : Phase) : (goto v ph s).c0 = s.c0 := rfl
@[simp] theorem goto_c0m (v : Nat) (ph : Phase) : (goto v ph s).c0m = s.c0m := rfl
@[simp] theorem goto_p (v : Nat) (ph : Phase) : (goto v ph s).p = s.p := rfl
@[simp] theorem goto_out (v : Nat) (ph : Phase) : (goto v ph s).out = s.out := rfl
@[simp] theorem goto_result (v : Nat) (ph : Phase) : (goto v ph s).result = s.result := rfl

/-! ### setRc -/

@[simp] theorem setRc_rc (v : BitVec 4) : (setRc v s).rc = v := rfl
@[simp] theorem setRc_rf (v : BitVec 4) : (setRc v s).rf = s.rf := rfl
@[simp] theorem setRc_initialised (v : BitVec 4) : (setRc v s).initialised = s.initialised := rfl
@[simp] theorem setRc_inputs (v : BitVec 4) : (setRc v s).inputs = s.inputs := rfl
@[simp] theorem setRc_sampled (v : BitVec 4) : (setRc v s).sampled = s.sampled := rfl
@[simp] theorem setRc_wellKnownPort (v : BitVec 4) : (setRc v s).wellKnownPort = s.wellKnownPort := rfl
@[simp] theorem setRc_pending (v : BitVec 4) : (setRc v s).pending = s.pending := rfl
@[simp] theorem setRc_phase (v : BitVec 4) : (setRc v s).phase = s.phase := rfl
@[simp] theorem setRc_dg (v : BitVec 4) : (setRc v s).dg = s.dg := rfl
@[simp] theorem setRc_len (v : BitVec 4) : (setRc v s).len = s.len := rfl
@[simp] theorem setRc_srcPort (v : BitVec 4) : (setRc v s).srcPort = s.srcPort := rfl
@[simp] theorem setRc_dstPort (v : BitVec 4) : (setRc v s).dstPort = s.dstPort := rfl
@[simp] theorem setRc_cur (v : BitVec 4) : (setRc v s).cur = s.cur := rfl
@[simp] theorem setRc_skip (v : BitVec 4) : (setRc v s).skip = s.skip := rfl
@[simp] theorem setRc_dir (v : BitVec 4) : (setRc v s).dir = s.dir := rfl
@[simp] theorem setRc_slot (v : BitVec 4) : (setRc v s).slot = s.slot := rfl
@[simp] theorem setRc_c0 (v : BitVec 4) : (setRc v s).c0 = s.c0 := rfl
@[simp] theorem setRc_c0m (v : BitVec 4) : (setRc v s).c0m = s.c0m := rfl
@[simp] theorem setRc_p (v : BitVec 4) : (setRc v s).p = s.p := rfl
@[simp] theorem setRc_out (v : BitVec 4) : (setRc v s).out = s.out := rfl
@[simp] theorem setRc_result (v : BitVec 4) : (setRc v s).result = s.result := rfl

/-! ### setRf -/

@[simp] theorem setRf_rc (v : BitVec 3) : (setRf v s).rc = s.rc := rfl
@[simp] theorem setRf_rf (v : BitVec 3) : (setRf v s).rf = v := rfl
@[simp] theorem setRf_initialised (v : BitVec 3) : (setRf v s).initialised = s.initialised := rfl
@[simp] theorem setRf_inputs (v : BitVec 3) : (setRf v s).inputs = s.inputs := rfl
@[simp] theorem setRf_sampled (v : BitVec 3) : (setRf v s).sampled = s.sampled := rfl
@[simp] theorem setRf_wellKnownPort (v : BitVec 3) : (setRf v s).wellKnownPort = s.wellKnownPort := rfl
@[simp] theorem setRf_pending (v : BitVec 3) : (setRf v s).pending = s.pending := rfl
@[simp] theorem setRf_phase (v : BitVec 3) : (setRf v s).phase = s.phase := rfl
@[simp] theorem setRf_dg (v : BitVec 3) : (setRf v s).dg = s.dg := rfl
@[simp] theorem setRf_len (v : BitVec 3) : (setRf v s).len = s.len := rfl
@[simp] theorem setRf_srcPort (v : BitVec 3) : (setRf v s).srcPort = s.srcPort := rfl
@[simp] theorem setRf_dstPort (v : BitVec 3) : (setRf v s).dstPort = s.dstPort := rfl
@[simp] theorem setRf_cur (v : BitVec 3) : (setRf v s).cur = s.cur := rfl
@[simp] theorem setRf_skip (v : BitVec 3) : (setRf v s).skip = s.skip := rfl
@[simp] theorem setRf_dir (v : BitVec 3) : (setRf v s).dir = s.dir := rfl
@[simp] theorem setRf_slot (v : BitVec 3) : (setRf v s).slot = s.slot := rfl
@[simp] theorem setRf_c0 (v : BitVec 3) : (setRf v s).c0 = s.c0 := rfl
@[simp] theorem setRf_c0m (v : BitVec 3) : (setRf v s).c0m = s.c0m := rfl
@[simp] theorem setRf_p (v : BitVec 3) : (setRf v s).p = s.p := rfl
@[simp] theorem setRf_out (v : BitVec 3) : (setRf v s).out = s.out := rfl
@[simp] theorem setRf_result (v : BitVec 3) : (setRf v s).result = s.result := rfl

/-! ### setBase -/

@[simp] theorem setBase_rc (v k : Nat) : (setBase v k s).rc = s.rc := rfl
@[simp] theorem setBase_rf (v k : Nat) : (setBase v k s).rf = s.rf := rfl
@[simp] theorem setBase_initialised (v k : Nat) : (setBase v k s).initialised = s.initialised := rfl
@[simp] theorem setBase_inputs (v k : Nat) : (setBase v k s).inputs = s.inputs := rfl
@[simp] theorem setBase_sampled (v k : Nat) : (setBase v k s).sampled = s.sampled := rfl
@[simp] theorem setBase_wellKnownPort (v k : Nat) : (setBase v k s).wellKnownPort = s.wellKnownPort := rfl
@[simp] theorem setBase_pending (v k : Nat) : (setBase v k s).pending = s.pending := rfl
@[simp] theorem setBase_phase (v k : Nat) : (setBase v k s).phase = s.phase := rfl
@[simp] theorem setBase_dg (v k : Nat) : (setBase v k s).dg = s.dg := rfl
@[simp] theorem setBase_len (v k : Nat) : (setBase v k s).len = s.len := rfl
@[simp] theorem setBase_srcPort (v k : Nat) : (setBase v k s).srcPort = s.srcPort := rfl
@[simp] theorem setBase_dstPort (v k : Nat) : (setBase v k s).dstPort = s.dstPort := rfl
@[simp] theorem setBase_cur (v k : Nat) : (setBase v k s).cur = s.cur := rfl
@[simp] theorem setBase_skip (v k : Nat) : (setBase v k s).skip = k := rfl
@[simp] theorem setBase_dir (v k : Nat) : (setBase v k s).dir = s.dir := rfl
@[simp] theorem setBase_slot (v k : Nat) : (setBase v k s).slot = s.slot := rfl
@[simp] theorem setBase_c0 (v k : Nat) : (setBase v k s).c0 = s.c0 := rfl
@[simp] theorem setBase_c0m (v k : Nat) : (setBase v k s).c0m = s.c0m := rfl
@[simp] theorem setBase_p (v k : Nat) : (setBase v k s).p = v := rfl
@[simp] theorem setBase_out (v k : Nat) : (setBase v k s).out = s.out := rfl
@[simp] theorem setBase_result (v k : Nat) : (setBase v k s).result = s.result := rfl

/-! ### setC0 -/

@[simp] theorem setC0_rc (m : Byte) : (setC0 m s).rc = s.rc := rfl
@[simp] theorem setC0_rf (m : Byte) : (setC0 m s).rf = s.rf := rfl
@[simp] theorem setC0_initialised (m : Byte) : (setC0 m s).initialised = s.initialised := rfl
@[simp] theorem setC0_inputs (m : Byte) : (setC0 m s).inputs = s.inputs := rfl
@[simp] theorem setC0_sampled (m : Byte) : (setC0 m s).sampled = s.sampled := rfl
@[simp] theorem setC0_wellKnownPort (m : Byte) : (setC0 m s).wellKnownPort = s.wellKnownPort := rfl
@[simp] theorem setC0_pending (m : Byte) : (setC0 m s).pending = s.pending := rfl
@[simp] theorem setC0_phase (m : Byte) : (setC0 m s).phase = s.phase := rfl
@[simp] theorem setC0_dg (m : Byte) : (setC0 m s).dg = s.dg := rfl
@[simp] theorem setC0_len (m : Byte) : (setC0 m s).len = s.len := rfl
@[simp] theorem setC0_srcPort (m : Byte) : (setC0 m s).srcPort = s.srcPort := rfl
@[simp] theorem setC0_dstPort (m : Byte) : (setC0 m s).dstPort = s.dstPort := rfl
@[simp] theorem setC0_cur (m : Byte) : (setC0 m s).cur = s.cur := rfl
@[simp] theorem setC0_skip (m : Byte) : (setC0 m s).skip = s.skip := rfl
@[simp] theorem setC0_dir (m : Byte) : (setC0 m s).dir = s.dir := rfl
@[simp] theorem setC0_slot (m : Byte) : (setC0 m s).slot = s.slot := rfl
@[simp] theorem setC0_c0 (m : Byte) : (setC0 m s).c0 = byteAt s (s.p + 3) := rfl
@[simp] theorem setC0_c0m (m : Byte) : (setC0 m s).c0m = byteAt s (s.p + 3) &&& m := rfl
@[simp] theorem setC0_p (m : Byte) : (setC0 m s).p = s.p := rfl
@[simp] theorem setC0_out (m : Byte) : (setC0 m s).out = s.out := rfl
@[simp] theorem setC0_result (m : Byte) : (setC0 m s).result = s.result := rfl

/-! ### enterSubframe -/

@[simp] theorem enterSubframe_rc (d : Dir) (sl : Slot) : (enterSubframe d sl s).rc = s.rc := rfl
@[simp] theorem enterSubframe_rf (d : Dir) (sl : Slot) : (enterSubframe d sl s).rf = s.rf := rfl
@[simp] theorem enterSubframe_initialised (d : Dir) (sl : Slot) : (enterSubframe d sl s).initialised = s.initialised := rfl
@[simp] theorem enterSubframe_inputs (d : Dir) (sl : Slot) : (enterSubframe d sl s).inputs = s.inputs := rfl
@[simp] theorem enterSubframe_sampled (d : Dir) (sl : Slot) : (enterSubframe d sl s).sampled = s.sampled := rfl
@[simp] theorem enterSubframe_wellKnownPort (d : Dir) (sl : Slot) : (enterSubframe d sl s).wellKnownPort = s.wellKnownPort := rfl
@[simp] theorem enterSubframe_pending (d : Dir) (sl : Slot) : (enterSubframe d sl s).pending = s.pending := rfl
@[simp] theorem enterSubframe_phase (d : Dir) (sl : Slot) : (enterSubframe d sl s).phase = (match d with | .h2d => .h2dControl | .d2h => .d2hControl) := rfl
@[simp] theorem enterSubframe_dg (d : Dir) (sl : Slot) : (enterSubframe d sl s).dg = s.dg := rfl
@[simp] theorem enterSubframe_len (d : Dir) (sl : Slot) : (enterSubframe d sl s).len = s.len := rfl
@[simp] theorem enterSubframe_srcPort (d : Dir) (sl : Slot) : (enterSubframe d sl s).srcPort = s.srcPort := rfl
@[simp] theorem enterSubframe_dstPort (d : Dir) (sl : Slot) : (enterSubframe d sl s).dstPort = s.dstPort := rfl
@[simp] theorem enterSubframe_cur (d : Dir) (sl : Slot) : (enterSubframe d sl s).cur = s.cur := rfl
@[simp] theorem enterSubframe_skip (d : Dir) (sl : Slot) : (enterSubframe d sl s).skip = s.skip := rfl
@[simp] theorem enterSubframe_dir (d : Dir) (sl : Slot) : (enterSubframe d sl s).dir = d := rfl
@[simp] theorem enterSubframe_slot (d : Dir) (sl : Slot) : (enterSubframe d sl s).slot = sl := rfl
@[simp] theorem enterSubframe_c0 (d : Dir) (sl : Slot) : (enterSubframe d sl s).c0 = s.c0 := rfl
@[simp] theorem enterSubframe_c0m (d : Dir) (sl : Slot) : (enterSubframe d sl s).c0m = s.c0m := rfl
@[simp] theorem enterSubframe_p (d : Dir) (sl : Slot) : (enterSubframe d sl s).p = s.p := rfl
@[simp] theorem enterSubframe_out (d : Dir) (sl : Slot) : (enterSubframe d sl s).out = s.out := rfl
@[simp] theorem enterSubframe_result (d : Dir) (sl : Slot) : (enterSubframe d sl s).result = s.result := rfl

/-! ### resetTransaction -/

@[simp] theorem resetTransaction_rc : (resetTransaction s).rc = 0#4 := rfl
@[simp] theorem resetTransaction_rf : (resetTransaction s).rf = 0#3 := rfl
@[simp] theorem resetTransaction_initialised : (resetTransaction s).initialised = true := rfl
@[simp] theorem resetTransaction_inputs : (resetTransaction s).inputs = s.inputs := rfl
@[simp] theorem resetTransaction_sampled : (resetTransaction s).sampled = s.sampled := rfl
@[simp] theorem resetTransaction_wellKnownPort : (resetTransaction s).wellKnownPort = s.wellKnownPort := rfl
@[simp] theorem resetTransaction_pending : (resetTransaction s).pending = s.pending := rfl
@[simp] theorem resetTransaction_phase : (resetTransaction s).phase = s.phase := rfl
@[simp] theorem resetTransaction_dg : (resetTransaction s).dg = s.dg := rfl
@[simp] theorem resetTransaction_len : (resetTransaction s).len = s.len := rfl
@[simp] theorem resetTransaction_srcPort : (resetTransaction s).srcPort = s.srcPort := rfl
@[simp] theorem resetTransaction_dstPort : (resetTransaction s).dstPort = s.dstPort := rfl
@[simp] theorem resetTransaction_cur : (resetTransaction s).cur = s.cur := rfl
@[simp] theorem resetTransaction_skip : (resetTransaction s).skip = s.skip := rfl
@[simp] theorem resetTransaction_dir : (resetTransaction s).dir = s.dir := rfl
@[simp] theorem resetTransaction_slot : (resetTransaction s).slot = s.slot := rfl
@[simp] theorem resetTransaction_c0 : (resetTransaction s).c0 = s.c0 := rfl
@[simp] theorem resetTransaction_c0m : (resetTransaction s).c0m = s.c0m := rfl
@[simp] theorem resetTransaction_p : (resetTransaction s).p = s.p := rfl
@[simp] theorem resetTransaction_out : (resetTransaction s).out = [] := rfl
@[simp] theorem resetTransaction_result : (resetTransaction s).result = none := rfl

/-! ### beginDecode -/

@[simp] theorem beginDecode_rc (bs : List Byte) (src dst : Port) : (beginDecode bs src dst s).rc = s.rc := rfl
@[simp] theorem beginDecode_rf (bs : List Byte) (src dst : Port) : (beginDecode bs src dst s).rf = s.rf := rfl
@[simp] theorem beginDecode_initialised (bs : List Byte) (src dst : Port) : (beginDecode bs src dst s).initialised = s.initialised := rfl
@[simp] theorem beginDecode_inputs (bs : List Byte) (src dst : Port) : (beginDecode bs src dst s).inputs = s.inputs := rfl
@[simp] theorem beginDecode_sampled (bs : List Byte) (src dst : Port) : (beginDecode bs src dst s).sampled = s.inputs := rfl
@[simp] theorem beginDecode_wellKnownPort (bs : List Byte) (src dst : Port) : (beginDecode bs src dst s).wellKnownPort = s.wellKnownPort := rfl
@[simp] theorem beginDecode_pending (bs : List Byte) (src dst : Port) : (beginDecode bs src dst s).pending = s.pending := rfl
@[simp] theorem beginDecode_phase (bs : List Byte) (src dst : Port) : (beginDecode bs src dst s).phase = .status := rfl
@[simp] theorem beginDecode_dg (bs : List Byte) (src dst : Port) : (beginDecode bs src dst s).dg = loadBytes 0 bs := rfl
@[simp] theorem beginDecode_len (bs : List Byte) (src dst : Port) : (beginDecode bs src dst s).len = bs.length := rfl
@[simp] theorem beginDecode_srcPort (bs : List Byte) (src dst : Port) : (beginDecode bs src dst s).srcPort = src := rfl
@[simp] theorem beginDecode_dstPort (bs : List Byte) (src dst : Port) : (beginDecode bs src dst s).dstPort = dst := rfl
@[simp] theorem beginDecode_cur (bs : List Byte) (src dst : Port) : (beginDecode bs src dst s).cur = 0 := rfl
@[simp] theorem beginDecode_skip (bs : List Byte) (src dst : Port) : (beginDecode bs src dst s).skip = 0 := rfl
@[simp] theorem beginDecode_dir (bs : List Byte) (src dst : Port) : (beginDecode bs src dst s).dir = .h2d := rfl
@[simp] theorem beginDecode_slot (bs : List Byte) (src dst : Port) : (beginDecode bs src dst s).slot = .one := rfl
@[simp] theorem beginDecode_c0 (bs : List Byte) (src dst : Port) : (beginDecode bs src dst s).c0 = 0#8 := rfl
@[simp] theorem beginDecode_c0m (bs : List Byte) (src dst : Port) : (beginDecode bs src dst s).c0m = 0#8 := rfl
@[simp] theorem beginDecode_p (bs : List Byte) (src dst : Port) : (beginDecode bs src dst s).p = 0 := rfl
@[simp] theorem beginDecode_out (bs : List Byte) (src dst : Port) : (beginDecode bs src dst s).out = [] := rfl
@[simp] theorem beginDecode_result (bs : List Byte) (src dst : Port) : (beginDecode bs src dst s).result = none := rfl

/-! ### extraBytesCheck -/

@[simp] theorem extraBytesCheck_rc : (extraBytesCheck s).rc = s.rc := by unfold extraBytesCheck diag; split <;> rfl
@[simp] theorem extraBytesCheck_rf : (extraBytesCheck s).rf = s.rf := by unfold extraBytesCheck diag; split <;> rfl
@[simp] theorem extraBytesCheck_initialised : (extraBytesCheck s).initialised = s.initialised := by unfold extraBytesCheck diag; split <;> rfl
@[simp] theorem extraBytesCheck_inputs : (extraBytesCheck s).inputs = s.inputs := by unfold extraBytesCheck diag; split <;> rfl
@[simp] theorem extraBytesCheck_sampled : (extraBytesCheck s).sampled = s.sampled := by unfold extraBytesCheck diag; split <;> rfl
@[simp] theorem extraBytesCheck_wellKnownPort : (extraBytesCheck s).wellKnownPort = s.wellKnownPort := by unfold extraBytesCheck diag; split <;> rfl
@[simp] theorem extraBytesCheck_pending : (extraBytesCheck s).pending = s.pending := by unfold extraBytesCheck diag; split <;> rfl
@[simp] theorem extraBytesCheck_phase : (extraBytesCheck s).phase = s.phase := by unfold extraBytesCheck diag; split <;> rfl
@[simp] theorem extraBytesCheck_dg : (extraBytesCheck s).dg = s.dg := by unfold extraBytesCheck diag; split <;> rfl
@[simp] theorem extraBytesCheck_len : (extraBytesCheck s).len = s.len := by unfold extraBytesCheck diag; split <;> rfl
@[simp] theorem extraBytesCheck_srcPort : (extraBytesCheck s).srcPort = s.srcPort := by unfold extraBytesCheck diag; split <;> rfl
@[simp] theorem extraBytesCheck_dstPort : (extraBytesCheck s).dstPort = s.dstPort := by unfold extraBytesCheck diag; split <;> rfl
@[simp] theorem extraBytesCheck_cur : (extraBytesCheck s).cur = s.cur := by unfold extraBytesCheck diag; split <;> rfl
@[simp] theorem extraBytesCheck_skip : (extraBytesCheck s).skip = s.skip := by unfold extraBytesCheck diag; split <;> rfl
@[simp] theorem extraBytesCheck_dir : (extraBytesCheck s).dir = s.dir := by unfold extraBytesCheck diag; split <;> rfl
@[simp] theorem extraBytesCheck_slot : (extraBytesCheck s).slot = s.slot := by unfold extraBytesCheck diag; split <;> rfl
@[simp] theorem extraBytesCheck_c0 : (extraBytesCheck s).c0 = s.c0 := by unfold extraBytesCheck diag; split <;> rfl
@[simp] theorem extraBytesCheck_c0m : (extraBytesCheck s).c0m = s.c0m := by unfold extraBytesCheck diag; split <;> rfl
@[simp] theorem extraBytesCheck_p : (extraBytesCheck s).p = s.p := by unfold extraBytesCheck diag; split <;> rfl
@[simp] theorem extraBytesCheck_result : (extraBytesCheck s).result = s.result := by unfold extraBytesCheck diag; split <;> rfl

/-! ### finish -/

@[simp] theorem finish_rc : (finish s).rc = s.rc := extraBytesCheck_rc s
@[simp] theorem finish_rf : (finish s).rf = s.rf := extraBytesCheck_rf s
@[simp] theorem finish_initialised : (finish s).initialised = s.initialised := extraBytesCheck_initialised s
@[simp] theorem finish_inputs : (finish s).inputs = s.inputs := extraBytesCheck_inputs s
@[simp] theorem finish_sampled : (finish s).sampled = s.sampled := extraBytesCheck_sampled s
@[simp] theorem finish_wellKnownPort : (finish s).wellKnownPort = s.wellKnownPort := extraBytesCheck_wellKnownPort s
@[simp] theorem finish_pending : (finish s).pending = s.pending := extraBytesCheck_pending s
@[simp] theorem finish_phase : (finish s).phase = .idle := rfl
@[simp] theorem finish_dg : (finish s).dg = s.dg := extraBytesCheck_dg s
@[simp] theorem finish_len : (finish s).len = s.len := extraBytesCheck_len s
@[simp] theorem finish_srcPort : (finish s).srcPort = s.srcPort := extraBytesCheck_srcPort s
@[simp] theorem finish_dstPort : (finish s).dstPort = s.dstPort := extraBytesCheck_dstPort s
@[simp] theorem finish_cur : (finish s).cur = s.cur := extraBytesCheck_cur s
@[simp] theorem finish_skip : (finish s).skip = s.skip := extraBytesCheck_skip s
@[simp] theorem finish_dir : (finish s).dir = s.dir := extraBytesCheck_dir s
@[simp] theorem finish_slot : (finish s).slot = s.slot := extraBytesCheck_slot s
@[simp] theorem finish_c0 : (finish s).c0 = s.c0 := extraBytesCheck_c0 s
@[simp] theorem finish_c0m : (finish s).c0m = s.c0m := extraBytesCheck_c0m s
@[simp] theorem finish_p : (finish s).p = s.p := extraBytesCheck_p s
@[simp] theorem finish_out : (finish s).out = (extraBytesCheck s).out := rfl
@[simp] theorem finish_result : (finish s).result = some .ok := rfl

end Sys2Proof.Machine
end

