-- ==== Sys2Proof/Laws/Ops.lean ====
section
/-! SUPPORT. What each shared operation can do, said once. -/

namespace Sys2Proof.Machine

@[simp] theorem Run.andThen_go (s : State) (f : State → Run) : (Run.go s).andThen f = f s := rfl
@[simp] theorem Run.andThen_trap (s : State) (f : State → Run) : (Run.trap s).andThen f = .trap s := rfl
@[simp] theorem Run.outcome_go (s : State) : (Run.go s).outcome = .next s := rfl
@[simp] theorem Run.outcome_trap (s : State) : (Run.trap s).outcome = .next s := rfl

/-- A Run always has a next state. -/
theorem Run.outcome_next (r : Run) : ∃ t, r.outcome = .next t := by cases r <;> exact ⟨_, rfl⟩

/-- A sequence goes on only if both parts do. -/
theorem Run.andThen_eq_go {r : Run} {f : State → Run} {t : State} :
    r.andThen f = .go t ↔ ∃ s, r = .go s ∧ f s = .go t := by cases r <;> simp [Run.andThen]

/-- A sequence ends in a trap in its first part or in its second. -/
theorem Run.andThen_eq_trap {r : Run} {f : State → Run} {t : State} :
    r.andThen f = .trap t ↔ r = .trap t ∨ ∃ s, r = .go s ∧ f s = .trap t := by cases r <;> simp [Run.andThen]

/-- Need goes on, with no effect, where the bytes are there. -/
@[simp] theorem need_fits {off n : Nat} {s : State} (h : off + n ≤ s.len) : need off n s = .go s := by
  simp [need, Nat.not_lt.mpr h]

/-- Need raises Truncated where they are not. -/
@[simp] theorem need_short {off n : Nat} {s : State} (h : s.len < off + n) :
    need off n s = .trap (raise (.truncated off n) s) := by simp [need, h]

@[simp] theorem raise_push (e : Fatal) (it : Item) (s : State) : raise e (push it s) = raise e s := rfl
@[simp] theorem bytesAt_push (it : Item) (s : State) (off n : Nat) : bytesAt (push it s) off n = bytesAt s off n := rfl
@[simp] theorem fieldItem_push (it : Item) (s : State) (f : FieldSpec) : fieldItem (push it s) f = fieldItem s f := rfl

/-- One field: it is appended where it fits, and is Truncated where it does not. -/
theorem emit_spec (f : FieldSpec) (s : State) :
    emit f s = if s.len < f.off + f.n then .trap (raise (.truncated f.off f.n) s) else .go (push (fieldItem s f) s) := by
  unfold emit need
  split <;> rfl

/-- Everything a layout can do: each of its fields is appended in order, or the first that does not fit is Truncated. -/
theorem emitAll_spec (fs : List FieldSpec) (s : State) :
    emitAll fs s =
      match fs.find? (fun f => decide (s.len < f.off + f.n)) with
      | some f => .trap (raise (.truncated f.off f.n) s)
      | none => .go { s with out := s.out ++ fs.map (fieldItem s) } := by
  induction fs generalizing s with
  | nil => simp [emitAll]
  | cons f fs ih =>
    by_cases h : s.len < f.off + f.n
    · simp [emitAll, emit_spec, h]
    · rw [List.find?_cons_of_neg (by simpa using h), emitAll, emit_spec, if_neg h, Run.andThen_go]
      refine (ih (push (fieldItem s f) s)).trans ?_
      change (match fs.find? (fun g => decide (s.len < g.off + g.n)) with
        | some g => Run.trap (raise (.truncated g.off g.n) s)
        | none => Run.go { s with out := (s.out ++ [fieldItem s f]) ++ fs.map (fieldItem s) }) = _
      simp only [List.append_assoc, List.singleton_append, List.map_cons]

/-- A layout that fits is appended whole. -/
theorem emitAll_fits {fs : List FieldSpec} {s : State} (h : ∀ f ∈ fs, f.off + f.n ≤ s.len) :
    emitAll fs s = .go { s with out := s.out ++ fs.map (fieldItem s) } := by
  have hn : fs.find? (fun f => decide (s.len < f.off + f.n)) = none := by
    simpa [List.find?_eq_none] using h
  rw [emitAll_spec, hn]

/-- A layout whose first part fits and whose next field does not is Truncated there. -/
theorem emitAll_short {fs gs : List FieldSpec} {g : FieldSpec} {s : State} (h : ∀ f ∈ fs, f.off + f.n ≤ s.len)
    (hg : s.len < g.off + g.n) : emitAll (fs ++ g :: gs) s = .trap (raise (.truncated g.off g.n) s) := by
  have hn : fs.find? (fun f => decide (s.len < f.off + f.n)) = none := by
    simpa [List.find?_eq_none] using h
  rw [emitAll_spec, List.find?_append, hn]
  simp [hg]

/-- What a layout that went on left: all fields fitted, and only OUT changed. -/
theorem emitAll_go {fs : List FieldSpec} {s t : State} (h : emitAll fs s = .go t) :
    (∀ f ∈ fs, f.off + f.n ≤ s.len) ∧ t = { s with out := s.out ++ fs.map (fieldItem s) } := by
  rw [emitAll_spec] at h
  split at h
  · cases h
  · next hn => exact ⟨by simpa [List.find?_eq_none] using hn, by cases h; rfl⟩

/-- What a layout that trapped left: a fatal error of the state it began in. -/
theorem emitAll_trap {fs : List FieldSpec} {s t : State} (h : emitAll fs s = .trap t) :
    ∃ f ∈ fs, s.len < f.off + f.n ∧ t = raise (.truncated f.off f.n) s := by
  rw [emitAll_spec] at h
  split at h
  · next f hf =>
    exact ⟨f, List.mem_of_find?_eq_some hf, by simpa using List.find?_some hf, by cases h; rfl⟩
  · cases h

/-- A pad region: one field, and CUR behind it (rule R118). -/
theorem padRegion_spec (off nominal : Nat) (s : State) :
    padRegion off nominal s =
      if s.len < off + padLength s nominal then .trap (raise (.truncated off (padLength s nominal)) s)
      else .go { s with
        cur := off + padLength s nominal
        out := s.out ++ [fieldItem s ⟨off, padLength s nominal, .pad, .bytes⟩] } := by
  unfold padRegion
  rw [emit_spec]
  dsimp only
  split <;> rfl

/-- The trap takes RESULT, OUT, CUR and the phase, and nothing else (rules R334 and R335). -/
theorem raise_spec (e : Fatal) (s : State) :
    raise e s = { s with result := some (.fatal e), out := [], cur := 0, phase := .idle } := rfl

/-- The sync search: what it answers, said for every position it passed. -/
theorem syncScan_ok {marker : List Byte} {s : State} {o fuel k j : Nat} (h : syncScan marker s o fuel k = .ok j) :
    k ≤ j ∧ o + j + 3 ≤ s.len ∧ bytesAt s (o + j) 3 = marker ∧
      ∀ i, k ≤ i → i < j → bytesAt s (o + i) 3 ≠ marker := by
  induction fuel generalizing k with
  | zero => cases h
  | succ fuel ih =>
    unfold syncScan at h
    split at h
    · cases h
    · next hfit =>
      split at h
      · next hm => cases h; exact ⟨Nat.le_refl _, by omega, hm, fun i hi hlt => absurd hlt (by omega)⟩
      · next hm =>
        obtain ⟨h1, h2, h3, h4⟩ := ih h
        refine ⟨by omega, h2, h3, fun i hi hlt => ?_⟩
        rcases Nat.eq_or_lt_of_le hi with rfl | hgt
        · exact hm
        · exact h4 i hgt hlt

end Sys2Proof.Machine
end

