-- ==== Sys2Proof/Machine/Codes.lean ====
section
/-! DEFINITION. The numeric codes of the fatal errors and the diagnostics, and RESULT and the diagnostics as the records the
spec writes (spec/10_state.md rules R30 and R31, spec/60_exceptions.md rules R330 to R332, R336, R337). State holds the error
and the diagnostic by name; these views are computed from it (log 26). -/

namespace Sys2Proof.Machine

/-- The code of a fatal error (rule R31). -/
def fatalCode : Fatal → Nat
  | .truncated _ _ => 1
  | .unknownStatus _ => 2
  | .unknownEndpoint _ => 3

/-- The info of a fatal error (rule R31): the offset and width of the failed Need, or the selector byte. -/
inductive FatalInfo
  | place (off n : Nat)
  | selector (b : Byte)
  deriving DecidableEq, Repr

/-- The info that stands beside the code (rule R31). -/
def fatalInfo : Fatal → FatalInfo
  | .truncated off n => .place off n
  | .unknownStatus b => .selector b
  | .unknownEndpoint b => .selector b

/-- RESULT as the caller sees it (rule R31): OK, or FATAL(code, info). -/
inductive ResultRecord
  | ok
  | fatal (code : Nat) (info : FatalInfo)
  deriving DecidableEq, Repr

/-- RESULT <- FATAL(code(E), info) (rule R334). -/
def resultRecord : Result → ResultRecord
  | .ok => .ok
  | .fatal e => .fatal (fatalCode e) (fatalInfo e)

/-- The code of a diagnostic (rule R30). -/
def diagCode : DiagKind → Nat
  | .lateSync => 1
  | .extraBytes => 2

/-- A diagnostic as the tuple (kind, info, off), its kind by code (rule R30); a decoded field is none. -/
def diagRecord : Item → Option (Nat × Nat × Nat)
  | .diag kind info off => some (diagCode kind, info, off)
  | .field _ _ _ _ _ => none

end Sys2Proof.Machine
end

