-- ==== Sys2Proof/Machine/Parametric.lean ====
section
/-! DEFINITION. The machine for any value of its parameters (spec/00_scope.md rule R6; spec/92_eei_decisions.md, Open
parameters). `exec` and `step` are this machine at the spec's defaults. -/

namespace Sys2Proof.Machine

/-- The meaning of an instruction under the parameters `pr`. -/
def execWith (pr : Params) (i : Instr) (s : State) : Host.Outcome State Fault Refusal :=
  match i with
  | .stSetip => execStSetipWith pr s
  | .stStartstop => execStStartstopWith pr s
  | .discQuery => execDiscQueryWith pr s
  | .discReply board => execDiscReplyWith pr board s
  | .discReplyHl => execDiscReplyHlWith pr s
  | .h2dConfig mox => execH2dConfigWith pr mox s
  | .h2dDriveFilters mox => execH2dDriveFiltersWith pr mox s
  | .h2dPreampMicAdc1 mox => execH2dPreampMicAdc1With pr mox s
  | .h2dAdc23Keyer mox => execH2dAdc23KeyerWith pr mox s
  | .h2dAdcAssign mox => execH2dAdcAssignWith pr mox s
  | .h2dCwHangTone mox => execH2dCwHangToneWith pr mox s
  | .d2hFwdPower dot dash ptt => execD2hFwdPowerWith pr dot dash ptt s
  | .d2hRevPower dot dash ptt => execD2hRevPowerWith pr dot dash ptt s
  | .d2hSupply dot dash ptt => execD2hSupplyWith pr dot dash ptt s
  | .sbH2d => execSbH2dWith pr s
  | .sbD2hBlob => execSbD2hBlobWith pr s
  | .sbD2hOne => execSbD2hOneWith pr s
  | .sbD2hMulti n => execSbD2hMultiWith pr n s
  | .stData | .stDiscovery | .stUnknown _ | .ep2H2d | .ep4Raw | .ep6D2h | .epUnknown _ | .h2dTxFreq _ | .h2dRx1Freq _ |
    .h2dRx2Freq _ | .h2dRx3Freq _ | .h2dRx4Freq _ | .h2dRx5Freq _ | .h2dRx6Freq _ | .h2dRx7Freq _ | .h2dMercury1Rsvd _ |
    .h2dMercury2Rsvd _ | .h2dCwSidetonePtt _ | .h2dPwm _ | .h2dUnknown _ _ | .d2hInfo _ _ _ | .d2hAdcOverflow _ _ _ |
    .d2hUnknown _ _ _ _ => exec i s

/-- One step under the parameters `pr`. -/
def stepWith (pr : Params) (s : State) : Host.Outcome State Fault Refusal := stepBy pr.literals (execWith pr) s

end Sys2Proof.Machine
end

