-- ==== Sys2Proof/Laws/Parametric.lean ====
section
/-! SUPPORT. The source literals by value; the parametric machine at the spec's defaults is the machine; what a control
record or a sample block does for any layout, guard and literals; and the records with numeric codes lose nothing. -/

namespace Sys2Proof.Machine

@[simp] theorem literals_maxLen : Config.literals.maxLen = 65535 := rfl
@[simp] theorem literals_subframeLen : Config.literals.subframeLen = 512 := rfl
@[simp] theorem literals_sampleBlockLen : Config.literals.sampleBlockLen = 504 := rfl
@[simp] theorem literals_syncMarker : Config.literals.syncMarker = [0x7F#8, 0x7F#8, 0x7F#8] := rfl
@[simp] theorem literals_h2dTypeMask : Config.literals.h2dTypeMask = 0xFE#8 := rfl
@[simp] theorem literals_d2hTypeMask : Config.literals.d2hTypeMask = 0xF8#8 := rfl
@[simp] theorem literals_adcVref : Config.literals.adcVref = 33 / 10 := rfl
@[simp] theorem literals_adcFull : Config.literals.adcFull = 4095 := rfl
@[simp] theorem literals_bridgeDen : Config.literals.bridgeDen = 9 / 100 := rfl
@[simp] theorem literals_revOffset : Config.literals.revOffset = 10 := rfl
@[simp] theorem literals_divRatio : Config.literals.divRatio = (47 / 10 + 82 / 100) / (82 / 100) := rfl
@[simp] theorem literals_hangOffset : Config.literals.hangOffset = 10 := rfl
@[simp] theorem literals_fwdBreakpoints : Config.literals.fwdBreakpoints = ⟨98, 874, 1380, 2095, 2615, 3038⟩ := rfl
@[simp] theorem literals_startstopPad : Config.literals.startstopPad = 60 := rfl
@[simp] theorem literals_queryPad : Config.literals.queryPad = 60 := rfl
@[simp] theorem literals_replyPad : Config.literals.replyPad = 49 := rfl
@[simp] theorem literals_replyHlPad : Config.literals.replyHlPad = 40 := rfl
@[simp] theorem literals_setipPad : Config.literals.setipPad = 8 := rfl
@[simp] theorem defaultParams_literals : defaultParams.literals = Config.literals := rfl

/-- Under the source's Host→Device mask the selector byte is C0 (rule R77). -/
@[simp] theorem selectorByte_h2d (c0 : Byte) : c0 &&& 0xFE#8 ||| (c0 &&& 0x01#8) = c0 := by
  rw [← BitVec.and_or_distrib_left]
  exact BitVec.and_allOnes

/-- Under the source's Device→Host mask the selector byte is C0 (rule R78). -/
@[simp] theorem selectorByte_d2h (c0 : Byte) : c0 &&& 0xF8#8 ||| (c0 &&& 0x07#8) = c0 := by
  rw [← BitVec.and_or_distrib_left]
  exact BitVec.and_allOnes

/-- The selector byte that a fetch of a control record reads is C0, under a mask whose complement is `flags`. -/
theorem read_selectorByte {mask flags : Byte} (h : ∀ c0 : Byte, c0 &&& mask ||| (c0 &&& flags) = c0) (r : Run) (m : SelMap) :
    ((r.andThen fun s => (need (s.p + 3) 1 s).andThen fun s => .go (setC0 mask s)).read m
        fun s => [s.c0m ||| (s.c0 &&& flags)])
      = (r.andThen fun s => (need (s.p + 3) 1 s).andThen fun s => .go (setC0 mask s)).read m fun s => [s.c0] := by
  cases r with
  | trap => rfl
  | go s =>
    rw [Run.andThen_go]
    cases need (s.p + 3) 1 s with
    | trap => rfl
    | go t => simp [Run.read, setC0, h]

/-- A Host→Device control record is selected by C0 (rules R77 and R151). -/
theorem fetch_h2dControl {s : State} (h : s.phase = .h2dControl) :
    fetch s = ((syncLocate Config.literals s.cur s).andThen fun s =>
      (need (s.p + 3) 1 s).andThen fun s => .go (setC0 0xFE#8 s)).read .h2dControl fun s => [s.c0] := by
  unfold fetch fetchWith
  rw [h]
  exact read_selectorByte selectorByte_h2d _ _

/-- A Device→Host control record is selected by C0 (rules R78 and R155). -/
theorem fetch_d2hControl {s : State} (h : s.phase = .d2hControl) :
    fetch s = (((need s.cur 3 s).andThen fun s => .go (setBase s.cur 0 s)).andThen fun s =>
      (need (s.p + 3) 1 s).andThen fun s => .go (setC0 0xF8#8 s)).read .d2hControl fun s => [s.c0] := by
  unfold fetch fetchWith
  rw [h]
  exact read_selectorByte selectorByte_d2h _ _

/-- At the spec's defaults the parametric meanings are the meanings. -/
theorem execWith_defaultParams (i : Instr) (s : State) : execWith defaultParams i s = exec i s := by cases i <;> rfl

/-- At the spec's defaults the parametric step is the step. -/
theorem stepWith_defaultParams (s : State) : stepWith defaultParams s = step s :=
  congrArg (stepBy Config.literals · s) (funext fun i => funext fun t => execWith_defaultParams i t)

/-- RC is written exactly when the guard admits RF, whatever the guard (rule R182). -/
theorem learnReceiverCount_spec (guard : BitVec 3 → Bool) (s : State) :
    learnReceiverCount guard s = { s with rc := if guard s.rf then rcNew (byteAt s (s.p + 7)) else s.rc } := by
  unfold learnReceiverCount
  split <;> rfl

/-- LateSync after the sync field (rule R336). -/
theorem lateSync_spec (s : State) :
    lateSync s = { s with out := s.out ++ if 0 < s.skip then [.diag .lateSync s.skip s.p] else [] } := by
  unfold lateSync
  split
  · rfl
  · rw [List.append_nil]

/-- The head of a Host→Device sub-frame that lies in the datagram: sync, LateSync, c0_type and mox. -/
theorem h2dHead_fits {s : State} (c0m : Byte) (mox : Bool) (h : s.p + 8 ≤ s.len) :
    h2dHead c0m mox s = .go { s with out := s.out ++ [fieldItem s ⟨s.p, 3, .sync, .bytes⟩]
      ++ (if 0 < s.skip then [.diag .lateSync s.skip s.p] else [])
      ++ [fieldItem s ⟨s.p + 3, 1, .c0_type, .given (.enum c0m.toNat)⟩, fieldItem s ⟨s.p + 3, 1, .mox, .given (.bool mox)⟩] } := by
  have hsync : ¬ s.len < s.p + 3 := by omega
  unfold h2dHead
  rw [emit_spec, if_neg hsync, Run.andThen_go, Run.andThen_go, lateSync_spec, emitAll_fits (by simp; omega), Run.andThen_go,
    need_fits (by simp; omega)]
  rfl

/-- What a Host→Device control record does, for any layout that lies in its payload and any state update: the head, the
layout's fields in order, the update, and the sample block next. FIELD_TABLES and RC_UPDATE_GUARD enter by `layout` and
`write` only. -/
theorem h2dRecord_fits {s : State} (c0m : Byte) (mox : Bool) (layout : Nat → List FieldSpec) (write : State → State)
    (h : s.p + 8 ≤ s.len) (hl : ∀ f ∈ layout (s.p + 4), f.off + f.n ≤ s.p + 8) :
    h2dRecord c0m mox layout write s = .next (goto (s.p + 8) .h2dSamples (write { s with
      out := s.out ++ [fieldItem s ⟨s.p, 3, .sync, .bytes⟩]
        ++ (if 0 < s.skip then [.diag .lateSync s.skip s.p] else [])
        ++ [fieldItem s ⟨s.p + 3, 1, .c0_type, .given (.enum c0m.toNat)⟩, fieldItem s ⟨s.p + 3, 1, .mox, .given (.bool mox)⟩]
        ++ (layout (s.p + 4)).map (fieldItem s) })) := by
  unfold h2dRecord
  rw [h2dHead_fits c0m mox h, Run.andThen_go, emitAll_fits (by intro f hf; exact Nat.le_trans (hl f hf) h)]
  rfl

/-- What a sample block does, for any layout that lies in the datagram and any literals: the layout's fields in order, and
the end of the sub-frame. -/
theorem sampleBlock_fits {s : State} (l : Literals) (d : Dir) (layout : Nat → List FieldSpec)
    (h : ∀ f ∈ layout (s.p + 8), f.off + f.n ≤ s.len) :
    sampleBlock l d layout s
      = .next (endSubframe l d { s with out := s.out ++ (layout (s.p + 8)).map (fieldItem s) }) := by
  unfold sampleBlock
  rw [emitAll_fits h]
  rfl

/-- The end of a sub-frame, for any SUBFRAME_LEN (rules R157 and R158). -/
theorem endSubframe_spec (l : Literals) (d : Dir) (s : State) :
    endSubframe l d s = match s.slot with
      | .one => enterSubframe d .two { s with cur := s.p + l.subframeLen }
      | .two => finish { s with cur := s.p + l.subframeLen } := rfl

/-- The record of a raise is FATAL(code(E), info) (rule R334). -/
theorem raise_resultRecord (e : Fatal) (s : State) :
    (raise e s).result.map resultRecord = some (.fatal (fatalCode e) (fatalInfo e)) := rfl

/-- A RESULT's code and info determine it. -/
theorem resultRecord_injective {r r' : Result} (h : resultRecord r = resultRecord r') : r = r' := by
  rcases r with _ | e <;> rcases r' with _ | e'
  · rfl
  · cases h
  · cases h
  · cases e <;> cases e' <;> simp_all [resultRecord, fatalCode, fatalInfo]

/-- The codes are those of rule R31's table: 1, 2 or 3. -/
theorem fatalCode_mem (e : Fatal) : fatalCode e ∈ [1, 2, 3] := by cases e <;> simp [fatalCode]

/-- A diagnostic's code determines its kind. -/
theorem diagCode_injective {k k' : DiagKind} (h : diagCode k = diagCode k') : k = k' := by
  cases k <;> cases k' <;> simp_all [diagCode]

end Sys2Proof.Machine
end

