-- ==== Sys2Proof/Laws/PerInstr.lean ====
section
/-! SUPPORT. A fact about every instruction as syntax, one lemma per constructor: its selector word has exactly the bytes
its map reads; the receiver count has as many as it needs (spec/30_encoding.md rules R71, R73, R79, R80, R91 to R93). -/

namespace Sys2Proof.Laws.SelectorLength

/-- How many selector bytes a map reads. -/
def selectorBytes : SelMap → Nat
  | .discQuery | .h2dSamples => 0
  | .status | .endpoint | .discReply | .h2dControl | .d2hControl | .d2hSamples => 1

/-- An instruction's selector word has the length its map reads; a receiver count, which is no byte of the datagram, at
least that (rule R302). -/
def Statement (i : Instr) : Prop :=
  selectorBytes i.selMap ≤ (encode i).length ∧ (i.selMap ≠ .d2hSamples → (encode i).length = selectorBytes i.selMap)

theorem stData : Statement (.stData) := ⟨Nat.le_refl _, fun _ => rfl⟩
theorem stDiscovery : Statement (.stDiscovery) := ⟨Nat.le_refl _, fun _ => rfl⟩
theorem stSetip : Statement (.stSetip) := ⟨Nat.le_refl _, fun _ => rfl⟩
theorem stStartstop : Statement (.stStartstop) := ⟨Nat.le_refl _, fun _ => rfl⟩
theorem stUnknown (status : Byte) : Statement (.stUnknown status) := ⟨Nat.le_refl _, fun _ => rfl⟩
theorem ep2H2d : Statement (.ep2H2d) := ⟨Nat.le_refl _, fun _ => rfl⟩
theorem ep4Raw : Statement (.ep4Raw) := ⟨Nat.le_refl _, fun _ => rfl⟩
theorem ep6D2h : Statement (.ep6D2h) := ⟨Nat.le_refl _, fun _ => rfl⟩
theorem epUnknown (ep : Byte) : Statement (.epUnknown ep) := ⟨Nat.le_refl _, fun _ => rfl⟩
theorem discQuery : Statement (.discQuery) := ⟨Nat.le_refl _, fun _ => rfl⟩
theorem discReply (board : Byte) : Statement (.discReply board) := ⟨Nat.le_refl _, fun _ => rfl⟩
theorem discReplyHl : Statement (.discReplyHl) := ⟨Nat.le_refl _, fun _ => rfl⟩
theorem h2dConfig (mox : Bool) : Statement (.h2dConfig mox) := ⟨Nat.le_refl _, fun _ => rfl⟩
theorem h2dTxFreq (mox : Bool) : Statement (.h2dTxFreq mox) := ⟨Nat.le_refl _, fun _ => rfl⟩
theorem h2dRx1Freq (mox : Bool) : Statement (.h2dRx1Freq mox) := ⟨Nat.le_refl _, fun _ => rfl⟩
theorem h2dRx2Freq (mox : Bool) : Statement (.h2dRx2Freq mox) := ⟨Nat.le_refl _, fun _ => rfl⟩
theorem h2dRx3Freq (mox : Bool) : Statement (.h2dRx3Freq mox) := ⟨Nat.le_refl _, fun _ => rfl⟩
theorem h2dRx4Freq (mox : Bool) : Statement (.h2dRx4Freq mox) := ⟨Nat.le_refl _, fun _ => rfl⟩
theorem h2dRx5Freq (mox : Bool) : Statement (.h2dRx5Freq mox) := ⟨Nat.le_refl _, fun _ => rfl⟩
theorem h2dRx6Freq (mox : Bool) : Statement (.h2dRx6Freq mox) := ⟨Nat.le_refl _, fun _ => rfl⟩
theorem h2dRx7Freq (mox : Bool) : Statement (.h2dRx7Freq mox) := ⟨Nat.le_refl _, fun _ => rfl⟩
theorem h2dDriveFilters (mox : Bool) : Statement (.h2dDriveFilters mox) := ⟨Nat.le_refl _, fun _ => rfl⟩
theorem h2dPreampMicAdc1 (mox : Bool) : Statement (.h2dPreampMicAdc1 mox) := ⟨Nat.le_refl _, fun _ => rfl⟩
theorem h2dAdc23Keyer (mox : Bool) : Statement (.h2dAdc23Keyer mox) := ⟨Nat.le_refl _, fun _ => rfl⟩
theorem h2dMercury1Rsvd (mox : Bool) : Statement (.h2dMercury1Rsvd mox) := ⟨Nat.le_refl _, fun _ => rfl⟩
theorem h2dMercury2Rsvd (mox : Bool) : Statement (.h2dMercury2Rsvd mox) := ⟨Nat.le_refl _, fun _ => rfl⟩
theorem h2dAdcAssign (mox : Bool) : Statement (.h2dAdcAssign mox) := ⟨Nat.le_refl _, fun _ => rfl⟩
theorem h2dCwSidetonePtt (mox : Bool) : Statement (.h2dCwSidetonePtt mox) := ⟨Nat.le_refl _, fun _ => rfl⟩
theorem h2dCwHangTone (mox : Bool) : Statement (.h2dCwHangTone mox) := ⟨Nat.le_refl _, fun _ => rfl⟩
theorem h2dPwm (mox : Bool) : Statement (.h2dPwm mox) := ⟨Nat.le_refl _, fun _ => rfl⟩
theorem h2dUnknown (sel : BitVec 7) (mox : Bool) : Statement (.h2dUnknown sel mox) := ⟨Nat.le_refl _, fun _ => rfl⟩
theorem d2hInfo (dot : Bool) (dash : Bool) (ptt : Bool) : Statement (.d2hInfo dot dash ptt) := ⟨Nat.le_refl _, fun _ => rfl⟩
theorem d2hFwdPower (dot : Bool) (dash : Bool) (ptt : Bool) : Statement (.d2hFwdPower dot dash ptt) := ⟨Nat.le_refl _, fun _ => rfl⟩
theorem d2hRevPower (dot : Bool) (dash : Bool) (ptt : Bool) : Statement (.d2hRevPower dot dash ptt) := ⟨Nat.le_refl _, fun _ => rfl⟩
theorem d2hSupply (dot : Bool) (dash : Bool) (ptt : Bool) : Statement (.d2hSupply dot dash ptt) := ⟨Nat.le_refl _, fun _ => rfl⟩
theorem d2hAdcOverflow (dot : Bool) (dash : Bool) (ptt : Bool) : Statement (.d2hAdcOverflow dot dash ptt) := ⟨Nat.le_refl _, fun _ => rfl⟩
theorem d2hUnknown (sel : BitVec 5) (dot : Bool) (dash : Bool) (ptt : Bool) : Statement (.d2hUnknown sel dot dash ptt) := ⟨Nat.le_refl _, fun _ => rfl⟩
theorem sbH2d : Statement (.sbH2d) := ⟨Nat.le_refl _, fun _ => rfl⟩
theorem sbD2hBlob : Statement (.sbD2hBlob) := ⟨Nat.le_refl _, fun _ => rfl⟩
theorem sbD2hOne : Statement (.sbD2hOne) := ⟨Nat.le_refl _, fun _ => rfl⟩
theorem sbD2hMulti (n : Nat) : Statement (.sbD2hMulti n) := ⟨Nat.le_add_left 1 _, fun h => absurd rfl h⟩

end Sys2Proof.Laws.SelectorLength
end

