-- ==== Sys2Proof/Machine/Names.lean ====
section
/-! DEFINITION. The spec's spelling of the field identifiers (rule R29). Nothing in the machine reads it. -/

namespace Sys2Proof.Machine

/-- A numbered identifier: before ++ number ++ after. -/
def numbered (before : String) (n : Nat) (after : String) : String := before ++ toString n ++ after

/-- The identifier of a field as the rules write it. -/
def fieldText : FieldName → String
  | .protocol_id => "protocol_id"
  | .status => "status"
  | .endpoint => "endpoint"
  | .sequence => "sequence"
  | .ep4_sample i => numbered "ep4_sample[" i "]"
  | .pad => "pad"
  | .discovery_query => "discovery_query"
  | .hw_address => "hw_address"
  | .version => "version"
  | .board_id => "board_id"
  | .hl_version_string => "hl_version_string"
  | .mac => "mac"
  | .ipv4 => "ipv4"
  | .iq_stream => "iq_stream"
  | .wideband_stream => "wideband_stream"
  | .sync => "sync"
  | .c0_type => "c0_type"
  | .mox => "mox"
  | .ptt => "ptt"
  | .dash => "dash"
  | .dot => "dot"
  | .speed => "speed"
  | .ref_10mhz_source => "ref_10mhz_source"
  | .ref_122mhz_source => "ref_122mhz_source"
  | .config => "config"
  | .mic_source => "mic_source"
  | .mode => "mode"
  | .oc_output i => numbered "oc_output_" i ""
  | .preselector_attenuator => "preselector_attenuator"
  | .preamp => "preamp"
  | .if_dither => "if_dither"
  | .if_random => "if_random"
  | .preselector_antenna => "preselector_antenna"
  | .preselector_rx_out => "preselector_rx_out"
  | .tx_relay => "tx_relay"
  | .duplex => "duplex"
  | .receiver_count => "receiver_count"
  | .mic_timestamp => "mic_timestamp"
  | .common_mercury_freq => "common_mercury_freq"
  | .tx_freq_hz => "tx_freq_hz"
  | .rx_freq_hz r => numbered "rx" r "_freq_hz"
  | .drive_level => "drive_level"
  | .mic_boost => "mic_boost"
  | .mic_line_in => "mic_line_in"
  | .apollo_filter => "apollo_filter"
  | .apollo_tuner => "apollo_tuner"
  | .apollo_auto_tune => "apollo_auto_tune"
  | .filter_board_select => "filter_board_select"
  | .manual_filter_select => "manual_filter_select"
  | .vna_mode => "vna_mode"
  | .hpf_13mhz => "hpf_13mhz"
  | .hpf_20mhz => "hpf_20mhz"
  | .hpf_9_5mhz => "hpf_9_5mhz"
  | .hpf_6_5mhz => "hpf_6_5mhz"
  | .hpf_1_5mhz => "hpf_1_5mhz"
  | .hpf_bypass => "hpf_bypass"
  | .lna_6m => "lna_6m"
  | .tr_relay_disable => "tr_relay_disable"
  | .lpf_30_20m => "lpf_30_20m"
  | .lpf_60_40m => "lpf_60_40m"
  | .lpf_80m => "lpf_80m"
  | .lpf_160m => "lpf_160m"
  | .lpf_6m => "lpf_6m"
  | .lpf_12_10m => "lpf_12_10m"
  | .lpf_17_15m => "lpf_17_15m"
  | .c_bit n k => numbered "c" n "_bit" ++ toString k
  | .rx_preamp r => numbered "rx" r "_preamp"
  | .orion_mic_tip_ring => "orion_mic_tip_ring"
  | .orion_mic_bias => "orion_mic_bias"
  | .orion_mic_ptt => "orion_mic_ptt"
  | .codec_line_gain => "codec_line_gain"
  | .puresignal => "puresignal"
  | .open_drain i => numbered "open_drain_" i ""
  | .adc_attenuation n => numbered "adc" n "_attenuation"
  | .adc_attenuation_enable n => numbered "adc" n "_attenuation_enable"
  | .cw_reversed => "cw_reversed"
  | .cw_keyer_speed => "cw_keyer_speed"
  | .cw_keyer_mode => "cw_keyer_mode"
  | .cw_keyer_weight => "cw_keyer_weight"
  | .cw_keyer_spacing => "cw_keyer_spacing"
  | .rx_adc r => numbered "rx" r "_adc"
  | .tx_adc_attenuation => "tx_adc_attenuation"
  | .mercury_reserved n => numbered "mercury" n "_reserved"
  | .cw_source => "cw_source"
  | .sidetone_volume => "sidetone_volume"
  | .ptt_delay_ms => "ptt_delay_ms"
  | .cw_hang_time => "cw_hang_time"
  | .cw_sidetone_freq => "cw_sidetone_freq"
  | .pwm_min => "pwm_min"
  | .pwm_max => "pwm_max"
  | .control_raw => "control_raw"
  | .adc_overflow => "adc_overflow"
  | .hermes_io i => numbered "hermes_io_" i ""
  | .pll_locked => "pll_locked"
  | .freq_changed => "freq_changed"
  | .mercury_version => "mercury_version"
  | .penelope_version => "penelope_version"
  | .interface_version => "interface_version"
  | .forward_power_w => "forward_power_w"
  | .forward_power_2_w => "forward_power_2_w"
  | .reverse_power_w => "reverse_power_w"
  | .ain3 => "ain3"
  | .ain4 => "ain4"
  | .supply_volts => "supply_volts"
  | .adc_unit_overflow i => numbered "adc" i "_overflow"
  | .adc_unit_version i => numbered "adc" i "_version"
  | .left t => numbered "left[" t "]"
  | .right t => numbered "right[" t "]"
  | .i t => numbered "i[" t "]"
  | .q t => numbered "q[" t "]"
  | .samples_raw => "samples_raw"
  | .rx_i r t => numbered "rx" r "_i[" ++ numbered "" t "]"
  | .rx_q r t => numbered "rx" r "_q[" ++ numbered "" t "]"
  | .mic t => numbered "mic[" t "]"
  | .tableName id => numbered "table_name_" id ""

end Sys2Proof.Machine
end

