-- ==== Sys2Proof/Tests/Slice0.lean ====
section
/-! SUPPORT. Tests of the model, and a witness for the hypotheses of each obligation. Expected results come from
spec/95_test_vectors.md or by hand from the rules named. -/

namespace Sys2Proof.Tests

open Sys2Proof Sys2Proof.Machine Sys2Proof.Spec

/-! ### Well-formedness refuses what no selector word stands for -/

theorem test_wf_unknown_status_01 : (Instr.stUnknown 0x01#8).wf = false := by decide
theorem test_wf_unknown_status_02 : (Instr.stUnknown 0x02#8).wf = false := by decide
theorem test_wf_unknown_status_03 : (Instr.stUnknown 0x03#8).wf = false := by decide
theorem test_wf_unknown_status_04 : (Instr.stUnknown 0x04#8).wf = false := by decide
theorem test_wf_unknown_endpoint_02 : (Instr.epUnknown 0x02#8).wf = false := by decide
theorem test_wf_unknown_endpoint_04 : (Instr.epUnknown 0x04#8).wf = false := by decide
theorem test_wf_unknown_endpoint_06 : (Instr.epUnknown 0x06#8).wf = false := by decide
theorem test_wf_reply_of_hermes_lite : (Instr.discReply 0x06#8).wf = false := by decide
theorem test_wf_h2d_unknown_listed : (Instr.h2dUnknown 0x11#7 false).wf = false := by decide
theorem test_wf_d2h_unknown_listed : (Instr.d2hUnknown 0x04#5 false false false).wf = false := by decide
theorem test_wf_multi_of_one : (Instr.sbD2hMulti 1).wf = false := by decide
theorem test_wf_multi_of_none : (Instr.sbD2hMulti 0).wf = false := by decide

/-! ### Every row's selector word, written out from rules R71, R73, R77 to R80, R91, R92, R93 -/

theorem test_decode_st_data : decode .status [0b00000001#8] = .ok .stData := by decide
theorem test_decode_st_discovery : decode .status [0b00000010#8] = .ok .stDiscovery := by decide
theorem test_decode_st_setip : decode .status [0b00000011#8] = .ok .stSetip := by decide
theorem test_decode_st_startstop : decode .status [0b00000100#8] = .ok .stStartstop := by decide
theorem test_decode_st_unknown : decode .status [0b10000001#8] = .ok (.stUnknown 0x81#8) := by decide
theorem test_decode_ep2 : decode .endpoint [0b00000010#8] = .ok .ep2H2d := by decide
theorem test_decode_ep4 : decode .endpoint [0b00000100#8] = .ok .ep4Raw := by decide
theorem test_decode_ep6 : decode .endpoint [0b00000110#8] = .ok .ep6D2h := by decide
theorem test_decode_ep_unknown : decode .endpoint [0b00000011#8] = .ok (.epUnknown 0x03#8) := by decide
theorem test_decode_disc_query : decode .discQuery [] = .ok .discQuery := by decide
theorem test_decode_disc_reply : decode .discReply [0b00000001#8] = .ok (.discReply 0x01#8) := by decide
theorem test_decode_disc_reply_hl : decode .discReply [0b00000110#8] = .ok .discReplyHl := by decide
theorem test_decode_h2d_config : decode .h2dControl [0b00000000#8] = .ok (.h2dConfig false) := by decide
theorem test_decode_h2d_tx_freq : decode .h2dControl [0b00000011#8] = .ok (.h2dTxFreq true) := by decide
theorem test_decode_h2d_rx1 : decode .h2dControl [0b00000100#8] = .ok (.h2dRx1Freq false) := by decide
theorem test_decode_h2d_rx2 : decode .h2dControl [0b00000111#8] = .ok (.h2dRx2Freq true) := by decide
theorem test_decode_h2d_rx3 : decode .h2dControl [0b00001000#8] = .ok (.h2dRx3Freq false) := by decide
theorem test_decode_h2d_rx4 : decode .h2dControl [0b00001011#8] = .ok (.h2dRx4Freq true) := by decide
theorem test_decode_h2d_rx5 : decode .h2dControl [0b00001100#8] = .ok (.h2dRx5Freq false) := by decide
theorem test_decode_h2d_rx6 : decode .h2dControl [0b00001111#8] = .ok (.h2dRx6Freq true) := by decide
theorem test_decode_h2d_rx7 : decode .h2dControl [0b00010000#8] = .ok (.h2dRx7Freq false) := by decide
theorem test_decode_h2d_drive : decode .h2dControl [0b00010011#8] = .ok (.h2dDriveFilters true) := by decide
theorem test_decode_h2d_preamp : decode .h2dControl [0b00010100#8] = .ok (.h2dPreampMicAdc1 false) := by decide
theorem test_decode_h2d_keyer : decode .h2dControl [0b00010111#8] = .ok (.h2dAdc23Keyer true) := by decide
theorem test_decode_h2d_mercury1 : decode .h2dControl [0b00011000#8] = .ok (.h2dMercury1Rsvd false) := by decide
theorem test_decode_h2d_mercury2 : decode .h2dControl [0b00011011#8] = .ok (.h2dMercury2Rsvd true) := by decide
theorem test_decode_h2d_assign : decode .h2dControl [0b00011100#8] = .ok (.h2dAdcAssign false) := by decide
theorem test_decode_h2d_sidetone : decode .h2dControl [0b00011111#8] = .ok (.h2dCwSidetonePtt true) := by decide
theorem test_decode_h2d_hang : decode .h2dControl [0b00100000#8] = .ok (.h2dCwHangTone false) := by decide
theorem test_decode_h2d_pwm : decode .h2dControl [0b00100011#8] = .ok (.h2dPwm true) := by decide
theorem test_decode_h2d_unknown : decode .h2dControl [0b00100100#8] = .ok (.h2dUnknown 0x12#7 false) := by decide
theorem test_decode_d2h_info : decode .d2hControl [0b00000001#8] = .ok (.d2hInfo false false true) := by decide
theorem test_decode_d2h_fwd : decode .d2hControl [0b00001010#8] = .ok (.d2hFwdPower false true false) := by decide
theorem test_decode_d2h_rev : decode .d2hControl [0b00010100#8] = .ok (.d2hRevPower true false false) := by decide
theorem test_decode_d2h_supply : decode .d2hControl [0b00011110#8] = .ok (.d2hSupply true true false) := by decide
theorem test_decode_d2h_overflow : decode .d2hControl [0b00100000#8] = .ok (.d2hAdcOverflow false false false) := by decide
theorem test_decode_d2h_unknown : decode .d2hControl [0b00101111#8] = .ok (.d2hUnknown 0x05#5 true true true) := by decide
theorem test_decode_sb_h2d : decode .h2dSamples [] = .ok .sbH2d := by decide
theorem test_decode_sb_blob : decode .d2hSamples [0b00000000#8] = .ok .sbD2hBlob := by decide
theorem test_decode_sb_one : decode .d2hSamples [0b00000001#8] = .ok .sbD2hOne := by decide
theorem test_decode_sb_multi : decode .d2hSamples [0b00001000#8] = .ok (.sbD2hMulti 8) := by decide

/-- A map that reads a selector byte refuses an empty word by name. -/
theorem test_decode_refuses_empty : decode .status [] = .error .noSelectorByte := by decide

/-- The layout selector is defined for every natural (rules R25 and R302): 84, and 300 = 0x012C. -/
theorem test_decode_sb_multi_degenerate : decode .d2hSamples [0x54#8] = .ok (.sbD2hMulti 84) := by decide
theorem test_decode_sb_multi_two_bytes :
    decode .d2hSamples [0x2C#8, 0x01#8] = .ok (.sbD2hMulti 300) ∧ encode (.sbD2hMulti 300) = [0x2C#8, 0x01#8] := by decide

/-! ### One step on a small state -/

/-- The reset state with a datagram in the buffer. -/
def holding (bs : List Byte) : State := { State.reset with dg := loadBytes 0 bs, len := bs.length }

/-- A DECODE in progress on the datagram `bs`, at a phase and a cursor. -/
def busy (ph : Phase) (cur : Nat) (bs : List Byte) : State := { holding bs with phase := ph, cur := cur }

/-- A control record of 8 bytes at P = 0. -/
def record (c0 c1 c2 c3 c4 : Byte) : State := holding [0x7F#8, 0x7F#8, 0x7F#8, c0, c1, c2, c3, c4]

/-- A datagram with `n` zero bytes, whose sub-frame begins at P = 0. -/
def zeros (n : Nat) : State := { State.reset with len := n }

/-- What a test reads of the state after one instruction. -/
def after {α : Type} (f : State → α) (o : Step) : Option α :=
  match o with
  | .next t => some (f t)
  | .fault _ => none
  | .refused _ => none

/-- The values of the decoded fields in OUT. -/
def values (s : State) : List Value :=
  s.out.filterMap fun
    | .field _ _ _ v _ => some v
    | .diag _ _ _ => none

/-- The values that follow the fields of a control record's head. -/
def recordValues (heads : Nat) (o : Step) : Option (List Value) := after (fun t => (values t).drop heads) o

/-- 95, StartStop: `EF FE 04 01` is Truncated(4, 60), and RF = 0b011 stands. -/
theorem test_startstop_truncated_keeps_rf :
    after (fun t => (t.rf, t.result, t.out)) (exec .stStartstop (holding [0xEF#8, 0xFE#8, 0x04#8, 0x01#8]))
      = some (0b011#3, some (.fatal (.truncated 4 60)), []) := by decide +kernel

/-- 95, StartStop: `EF FE 04 02 {60×00}` gives RF = 0b101 and 5 items. -/
theorem test_startstop_wideband :
    after (fun t => (t.rf, t.result, t.out.length, t.cur))
      (exec .stStartstop (holding ([0xEF#8, 0xFE#8, 0x04#8, 0x02#8] ++ List.replicate 60 0#8)))
      = some (0b101#3, some .ok, 5, 64) := by decide +kernel

/-- 95, DataTransfer: a truncated header wins over the endpoint id. -/
theorem test_data_short_sequence :
    after (fun t => t.result) (exec .stData (holding [0xEF#8, 0xFE#8, 0x01#8, 0x03#8, 0x00#8]))
      = some (some (.fatal (.truncated 4 4))) := by decide +kernel

/-- 95, SetIp: CUR = 21 and 5 items. -/
theorem test_setip :
    after (fun t => (t.cur, t.result, t.out.length))
      (exec .stSetip (holding ([0xEF#8, 0xFE#8, 0x03#8] ++ List.replicate 6 0xAA#8 ++ [0xC0#8, 0xA8#8, 0x01#8, 0x0A#8]
        ++ List.replicate 8 0#8))) = some (21, some .ok, 5) := by decide +kernel

/-- 95, endpoint 4: `HDR(04,0) | 80` is Truncated(8, 2). -/
theorem test_ep4_truncated :
    after (fun t => t.result)
      (exec .ep4Raw (busy .endpoint 8 [0xEF#8, 0xFE#8, 1#8, 4#8, 0#8, 0#8, 0#8, 0#8, 0x80#8]))
      = some (some (.fatal (.truncated 8 2))) := by decide +kernel

/-- 95, W5(b): version 0x1F is (3, 1), board 1, CUR = 60. -/
theorem test_reply_version :
    after (fun t => (t.cur, (values t).drop 1 |>.take 2))
      (exec (.discReply 1#8) (busy .discovery 3 ([0xEF#8, 0xFE#8, 2#8, 0#8, 0x1C#8, 0xC0#8, 0xA2#8, 0x13#8, 0xDD#8, 0x1F#8, 1#8]
        ++ List.replicate 49 0#8))) = some (60, [.ver 3 1, .enum 1]) := by decide +kernel

/-- 95, Discovery: `EF FE 02` at the well-known port is Truncated(3, 60). -/
theorem test_query_truncated :
    after (fun t => t.result) (exec .discQuery (busy .discovery 3 [0xEF#8, 0xFE#8, 2#8]))
      = some (some (.fatal (.truncated 3 60))) := by decide +kernel

/-- 95, Discovery: nine version bytes and a 40-byte pad behind board 6. -/
theorem test_reply_hl :
    after (fun t => (t.cur, t.result, t.out.length))
      (exec .discReplyHl (busy .discovery 3 ([0xEF#8, 0xFE#8, 2#8] ++ List.replicate 6 0x11#8 ++ [0x28#8, 6#8]
        ++ List.replicate 9 0x41#8 ++ List.replicate 40 0#8))) = some (60, some .ok, 5) := by decide +kernel

/-- 95, record 0x00 with C4 = 0x38 and RF = 0b101: RC = 8. -/
theorem test_config_guard_allows :
    after (fun t => t.rc) (exec (.h2dConfig false) { record 0 0 0 0 0x38#8 with rf := 0b101#3 }) = some 8#4 := by decide +kernel

/-- 95, record 0x00 with C4 = 0x38 and RF = 0b001: RC unchanged. -/
theorem test_config_guard_denies :
    after (fun t => t.rc) (exec (.h2dConfig false) { record 0 0 0 0 0x38#8 with rf := 0b001#3, rc := 2#4 })
      = some 2#4 := by decide +kernel

theorem test_tx_freq : recordValues 3 (exec (.h2dTxFreq true) (record 3 0x00#8 0x6B#8 0x6C#8 0x00#8))
    = some [.uint 7040000] := by decide +kernel
theorem test_rx7_freq : recordValues 3 (exec (.h2dRx7Freq false) (record 0x10 0x01#8 0xC9#8 0xC3#8 0x80#8))
    = some [.uint 30000000] := by decide +kernel
theorem test_keyer : recordValues 3 (exec (.h2dAdc23Keyer false) (record 0x16 0x25#8 0x40#8 0xD4#8 0xB2#8))
    = some [.uint 5, .bool true, .bool false, .bool false, .uint 0, .bool false, .bool true, .bool false, .uint 20, .uint 3,
        .uint 50, .bool true] := by decide +kernel
theorem test_adc_assign : recordValues 3 (exec (.h2dAdcAssign false) (record 0x1C 0xE4#8 0x24#8 0x0A#8 0x00#8))
    = some [.uint 0, .uint 1, .uint 2, .uint 3, .uint 0, .uint 1, .uint 2, .uint 10, .bool false, .bool false, .bool false] := by
  decide +kernel
theorem test_sidetone : recordValues 3 (exec (.h2dCwSidetonePtt false) (record 0x1E 0x01#8 0x7F#8 0x14#8 0x00#8))
    = some [.bool true, .uint 127, .uint 20] := by decide +kernel
theorem test_hang_time : recordValues 3 (exec (.h2dCwHangTone false) (record 0x20 0x0A#8 0x01#8 0x96#8 0x00#8))
    = some [.sint 31, .uint 600] := by decide +kernel
theorem test_hang_time_negative : recordValues 3 (exec (.h2dCwHangTone false) (record 0x20 0x02#8 0xFC#8 0x00#8 0x00#8))
    = some [.sint (-2), .uint 0] := by decide +kernel
theorem test_pwm : recordValues 3 (exec (.h2dPwm false) (record 0x22 0xFF#8 0x03#8 0x00#8 0x00#8))
    = some [.uint 1023, .uint 0] := by decide +kernel
theorem test_d2h_info : recordValues 5 (exec (.d2hInfo true true true) (record 0x07 0x7F#8 0xFF#8 0x00#8 0xFF#8))
    = some [.bool true, .bool true, .bool true, .bool true, .bool true, .bool true, .bool true, .ver 25 5, .ver 0 0,
        .ver 25 5] := by decide +kernel
theorem test_rev_power : recordValues 5 (exec (.d2hRevPower false false false) (record 0x10 0x03#8 0xE8#8 0x01#8 0x00#8))
    = some [.real (58564 / 8281), .uint 256] := by decide +kernel
theorem test_supply : recordValues 5 (exec (.d2hSupply false false false) (record 0x18 0x00#8 0x10#8 0x07#8 0xD0#8))
    = some [.uint 16, .real (40480 / 3731)] := by decide +kernel
theorem test_forward_power_2 :
    (recordValues 6 (exec (.d2hFwdPower true false true) (record 0x0D 0x00#8 0x00#8 0x0F#8 0xFF#8)))
      = some [.real 121] := by decide +kernel
theorem test_adc_overflow : recordValues 5 (exec (.d2hAdcOverflow false false false) (record 0x20 0x3F#8 0x00#8 0x02#8 0xFF#8))
    = some [.bool true, .uint 31, .bool false, .uint 0, .bool false, .uint 1, .bool true, .uint 127] := by decide +kernel

/-- 95, sample blocks: `80 00 00 7F FF FF 80 00` at RC = 1. -/
theorem test_one_receiver_signs :
    after (fun t => (values t).take 3)
      (exec .sbD2hOne { holding (List.replicate 8 0#8 ++ [0x80#8, 0#8, 0#8, 0x7F#8, 0xFF#8, 0xFF#8, 0x80#8, 0#8]) with len := 512 })
      = some [.sint (-8388608), .sint 8388607, .sint (-32768)] := by decide +kernel

/-- 95, sample blocks: at RC = 8, 171 fields. -/
theorem test_eight_receivers_field_count :
    after (fun t => (t.out.length, t.cur, t.slot)) (exec (.sbD2hMulti 8) (zeros 512)) = some (171, 512, .two) := by
  decide +kernel

/-- 95, sync recovery: the marker is found with one byte skipped, and C0 = 0x7F. -/
theorem test_sync_overlapping_marker :
    fetch (busy .h2dControl 0 [0x00#8, 0x7F#8, 0x7F#8, 0x7F#8, 0x7F#8, 0x00#8])
      = .word .h2dControl [0x7F#8]
          { busy .h2dControl 0 [0x00#8, 0x7F#8, 0x7F#8, 0x7F#8, 0x7F#8, 0x00#8] with
            p := 1, skip := 1, c0 := 0x7F#8, c0m := 0x7E#8 } := by decide +kernel

/-- 95, sync recovery: no marker in 12 bytes is Truncated at the first window past the end. -/
theorem test_sync_absent :
    after (fun t => t.result) (step (busy .h2dControl 8 (List.replicate 20 0#8)))
      = some (some (.fatal (.truncated 18 3))) := by decide +kernel

/-- A table word is read in its map, and the placed word is what the next step runs. -/
theorem test_table_word_h2d_pwm : decodeTableWord 8 0x22 = some (.h2dPwm false) := by decide +kernel
theorem test_placed_word_runs :
    after (fun t => t.result) (step (State.reset.withFetchWord 8 0x04)) = some (some .ok) := by decide +kernel

/-- The codes of rules R30 and R31, in the records the caller sees. -/
theorem test_fatal_codes :
    resultRecord (.fatal (.truncated 4 60)) = .fatal 1 (.place 4 60) ∧
      resultRecord (.fatal (.unknownStatus 5#8)) = .fatal 2 (.selector 5#8) ∧
      resultRecord (.fatal (.unknownEndpoint 3#8)) = .fatal 3 (.selector 3#8) := by decide
theorem test_diag_codes :
    diagRecord (.diag .lateSync 2 10) = some (1, 2, 10) ∧ diagRecord (.diag .extraBytes 6 64) = some (2, 6, 64) := by decide

/-- Under another guard the same record leaves RC alone, and under another table record 0x14 emits that table's field. -/
theorem test_other_guard :
    after (fun t => t.rc) (execWith { defaultParams with rcUpdateGuard := fun _ => false } (.h2dConfig false) (record 0 0 0 0 0x38#8))
      = some 0#4 := by decide +kernel
theorem test_other_tables :
    recordValues 3 (execWith { defaultParams with fieldTables := ⟨[], [uintEntry 1 7 4 (.tableName 0)], [], []⟩ }
      (.h2dPreampMicAdc1 false) (record 0x14 0xA5#8 0 0 0)) = some [.uint 10] := by decide +kernel

/-- The source's literals are admitted, and so are others. -/
def otherLiterals : Literals :=
  { subframeLen := 16, sampleBlockLen := 8, h2dTypeMask := 0x7E#8, hangOffset := 0, revOffset := 0, setipPad := 2,
    fwdBreakpoints := { b6 := 4000 } }
theorem test_literals_admitted : Config.literals.admitted = true ∧ otherLiterals.admitted = true := by decide

/-- Under other literals (rule R6): the hang time without its offset, code 10 no longer clamped, another pad, a block of 8
bytes and a sub-frame of 16, and a type mask that drops bit 7 of C0. -/
theorem test_other_hang_offset :
    recordValues 3 (execWith { defaultParams with literals := otherLiterals } (.h2dCwHangTone false) (record 0x20 0x0A#8 0x01#8 0 0))
      = some [.sint 41, .uint 0] := by decide +kernel
theorem test_other_rev_offset :
    recordValues 5 (execWith { defaultParams with literals := otherLiterals } (.d2hRevPower false false false)
      (record 0x10 0x00#8 0x0A#8 0 0)) = some [.real (484 / 670761), .uint 0] := by decide +kernel
theorem test_other_setip_pad :
    after (fun t => t.cur) (execWith { defaultParams with literals := otherLiterals } .stSetip (zeros 15)) = some 15 := by
  decide +kernel
theorem test_other_block_length :
    after (fun t => (t.out.length, t.cur)) (execWith { defaultParams with literals := otherLiterals } .sbD2hOne (zeros 16))
      = some (3, 16) := by decide +kernel
theorem test_other_mask :
    (fetchWith otherLiterals (busy .h2dControl 0 [0x7F#8, 0x7F#8, 0x7F#8, 0xA3#8]))
      = .word .h2dControl [0x23#8] { busy .h2dControl 0 [0x7F#8, 0x7F#8, 0x7F#8, 0xA3#8] with c0 := 0xA3#8, c0m := 0x22#8 } := by
  decide +kernel

/-! ### Witnesses: for each obligation with hypotheses, a state and operands that meet them, at the bounds of each
clause -/

theorem witness_HeaderEmitsProtocolIdAndStatus :
    3 ≤ (zeros 3).len ∧ (zeros 2).len < 3 ∧ (busy .status 0 []).len < 3 ∧ (busy .status 0 []).phase = .status := by decide
theorem witness_StDataEmitsEndpointAndSequence :
    8 ≤ (zeros 8).len ∧ (zeros 3).len = 3 ∧ (4 ≤ (zeros 4).len ∧ (zeros 4).len ≤ 7) ∧
      (4 ≤ (zeros 7).len ∧ (zeros 7).len ≤ 7) := by decide
theorem witness_StDiscoveryReachesTheDiscoveryDispatch : 3 ≤ (zeros 3).len := by decide

/-- A state with STRICT_PAD sampled as 0. -/
def loosePad (n : Nat) : State := { zeros n with sampled := ⟨true, false, true⟩ }

theorem witness_StSetipEmitsMacAndAddress :
    13 + padLen (zeros 21) 8 ≤ (zeros 21).len ∧ 13 + padLen (loosePad 14) 8 ≤ (loosePad 14).len ∧
      (3 ≤ (zeros 3).len ∧ (zeros 8).len < 9) ∧ (9 ≤ (zeros 9).len ∧ (zeros 12).len < 13) ∧
      (13 ≤ (zeros 20).len ∧ (zeros 20).len < 13 + padLen (zeros 20) 8) := by decide
theorem witness_StStartstopWritesTheRunFlags :
    4 + padLen (zeros 64) 60 ≤ (zeros 64).len ∧ 4 + padLen (loosePad 5) 60 ≤ (loosePad 5).len ∧
      (4 ≤ (zeros 4).len ∧ (zeros 4).len < 4 + padLen (zeros 4) 60) ∧
      (4 ≤ (zeros 63).len ∧ (zeros 63).len < 4 + padLen (zeros 63) 60) ∧ (zeros 3).len = 3 := by decide
theorem witness_UnknownSelectorsAreFatal : 3 ≤ (zeros 3).len := by decide
theorem witness_Ep4EmitsItsSamples :
    (busy .endpoint 8 (List.replicate 1032 0#8)).cur + 1024 ≤ (busy .endpoint 8 (List.replicate 1032 0#8)).len ∧
      (busy .endpoint 8 []).len < (busy .endpoint 8 []).cur + 1024 ∧
      ({ zeros 1031 with cur := 8 } : State).len < ({ zeros 1031 with cur := 8 } : State).cur + 1024 := by
  decide +kernel
theorem witness_DiscoveryDatagramsEmitTheirFields :
    3 + padLen (zeros 63) 60 ≤ (zeros 63).len ∧ 11 + padLen (zeros 60) 49 ≤ (zeros 60).len ∧
      20 + padLen (zeros 60) 40 ≤ (zeros 60).len ∧ 20 + padLen (loosePad 21) 40 ≤ (loosePad 21).len ∧
      (3 ≤ (zeros 62).len ∧ (zeros 62).len < 3 + padLen (zeros 62) 60) ∧
      (11 ≤ (zeros 59).len ∧ (zeros 59).len < 11 + padLen (zeros 59) 49) ∧ (11 ≤ (zeros 11).len ∧ (zeros 19).len < 20) ∧
      (20 ≤ (zeros 20).len ∧ (zeros 20).len < 20 + padLen (zeros 20) 40) := by decide

/-- A Discovery datagram with a board id. -/
def discovery (board : Byte) (dst : Port) : State :=
  { busy .discovery 3 (List.replicate 10 0#8 ++ [board]) with dstPort := dst }

theorem witness_DiscoveryDispatchReadsPortThenBoard :
    ((busy .discovery 3 []).dstPort ≠ (busy .discovery 3 []).wellKnownPort ∧ (busy .discovery 3 []).len < 9 ∧
        (busy .discovery 3 (List.replicate 9 0#8)).len = 9 ∧ (busy .discovery 3 (List.replicate 10 0#8)).len = 10) ∧
      ((discovery 0#8 1024#16).phase = .discovery ∧ (discovery 0#8 1024#16).dstPort = (discovery 0#8 1024#16).wellKnownPort) ∧
      ((discovery 6#8 0#16).phase = .discovery ∧ (discovery 6#8 0#16).dstPort ≠ (discovery 6#8 0#16).wellKnownPort ∧
        11 ≤ (discovery 6#8 0#16).len ∧ u8 (discovery 6#8 0#16) 10 = 6) ∧
      ((discovery 7#8 0#16).phase = .discovery ∧ (discovery 7#8 0#16).dstPort ≠ (discovery 7#8 0#16).wellKnownPort ∧
        11 ≤ (discovery 7#8 0#16).len ∧ u8 (discovery 7#8 0#16) 10 ≠ 6) := by decide

/-- The hypothesis of every control-record statement, at its bound: the record fills the datagram. -/
theorem witness_H2dConfigEmitsFieldsAndLearnsReceiverCount :
    (record 0 0 0 0 0).p + 8 ≤ (record 0 0 0 0 0).len ∧ (record 0 0 0 0 0).rf = 0b000#3 ∧
      ({ record 0 0 0 0 0 with rf := 0b101#3 } : State).p + 8 ≤ ({ record 0 0 0 0 0 with rf := 0b101#3 } : State).len ∧
      ({ record 0 0 0 0 0 with rf := 0b011#3 } : State).p + 8 ≤ ({ record 0 0 0 0 0 with rf := 0b011#3 } : State).len := by
  decide
theorem witness_H2dFrequencyRecordsEmitTheFrequency : (record 2 0 0 0 1).p + 8 ≤ (record 2 0 0 0 1).len := by decide
theorem witness_H2dDriveFiltersEmitsDriveLevelAndBooleans : (record 0x12 1 2 3 4).p + 8 ≤ (record 0x12 1 2 3 4).len := by decide
theorem witness_H2dPreampMicAdc1EmitsItsFields : (record 0x14 1 2 3 4).p + 8 ≤ (record 0x14 1 2 3 4).len := by decide
theorem witness_H2dAdc23KeyerEmitsItsFields : (record 0x16 1 2 3 4).p + 8 ≤ (record 0x16 1 2 3 4).len := by decide
theorem witness_H2dReservedRecordsAreOpaque : (record 0x18 1 2 3 4).p + 8 ≤ (record 0x18 1 2 3 4).len := by decide
theorem witness_H2dAdcAssignEmitsItsFields : (record 0x1C 1 2 3 4).p + 8 ≤ (record 0x1C 1 2 3 4).len := by decide
theorem witness_H2dCwRecordsEmitTheirFields : (record 0x1E 1 2 3 4).p + 8 ≤ (record 0x1E 1 2 3 4).len := by decide
theorem witness_H2dPwmEmitsMinAndMax : (record 0x22 1 2 3 4).p + 8 ≤ (record 0x22 1 2 3 4).len := by decide
theorem witness_ControlPayloadIsCheckedAsAWhole :
    ((Instr.h2dPwm false).selMap = .h2dControl ∧ (zeros 4).p + 4 ≤ (zeros 4).len ∧ (zeros 4).len < (zeros 4).p + 8) ∧
      ((Instr.d2hInfo false false false).selMap = .d2hControl ∧ (zeros 7).p + 4 ≤ (zeros 7).len ∧
        (zeros 7).len < (zeros 7).p + 8) := by decide

/-- A table that rule R201 admits, other than the default one. -/
def otherTables : FieldTables := ⟨[boolEntry 4 7 (.tableName 0)], [uintEntry 1 7 0 (.tableName 1)], [], [boolEntry 3 0 (.tableName 2)]⟩

theorem witness_AdmittedFieldTablesStayInsideThePayload :
    otherTables.admitted = true ∧ ⟨3, 1, .tableName 0, .flag 7⟩ ∈ driveFiltersLayout otherTables 0 :=
  ⟨by decide, List.mem_cons_of_mem _ List.mem_cons_self⟩
theorem witness_D2hInfoEmitsFlagsAndVersions : (record 0x00 1 2 3 4).p + 8 ≤ (record 0x00 1 2 3 4).len := by decide
theorem witness_D2hMeasurementsEmitConvertedCodes : (record 0x08 1 2 3 4).p + 8 ≤ (record 0x08 1 2 3 4).len := by decide
theorem witness_D2hAdcOverflowEmitsFourUnits : (record 0x20 1 2 3 4).p + 8 ≤ (record 0x20 1 2 3 4).len := by decide
theorem witness_D2hUnknownIsOpaque : (record 0x28 1 2 3 4).p + 8 ≤ (record 0x28 1 2 3 4).len := by decide
theorem witness_SbH2dEmits252SamplesAndEndsTheSubframe :
    (zeros 512).p + 512 ≤ (zeros 512).len ∧ (zeros 511).len < (zeros 511).p + 512 ∧ (zeros 0).len < (zeros 0).p + 512 := by decide
theorem witness_SbD2hBlobIsOneOpaqueField :
    (zeros 512).p + 512 ≤ (zeros 512).len ∧ (zeros 511).len < (zeros 511).p + 512 ∧
      ((busy .d2hSamples 8 []).phase = .d2hSamples ∧ (busy .d2hSamples 8 []).rc = 0#4) := by decide
theorem witness_SbD2hTuplesEmitIqPairsThenMicThenPad :
    (zeros 512).p + 512 ≤ (zeros 512).len ∧ 2 ≤ 2 ∧ 2 ≤ 84 ∧
      (busy .d2hSamples 8 []).phase = .d2hSamples ∧ ({ busy .d2hSamples 8 [] with rc := 1#4 } : State).rc = 1#4 ∧
      2 ≤ ({ busy .d2hSamples 8 [] with rc := 2#4 } : State).rc.toNat ∧
      2 ≤ ({ busy .d2hSamples 8 [] with rc := 15#4 } : State).rc.toNat ∧
      (zeros 0).len < (zeros 0).p + 512 ∧ (zeros 511).len < (zeros 511).p + 512 ∧ 1 ≤ 1 ∧ 1 ≤ 84 := by decide

/-- At the bounds of the clauses: 1, 41, 42, 83 and 84 receivers; where two clauses hold (42 to 83, and 1 to 41) the layout
begins with the same tuple in both. -/
theorem witness_DegenerateStridesHaveOnlyPad :
    84 ≤ 84 ∧ (42 ≤ 42 ∧ 42 ≤ 83) ∧ (42 ≤ 83 ∧ 83 ≤ 83) ∧ (1 ≤ 1 ∧ 1 ≤ 83) ∧ (1 ≤ 1 ∧ 1 ≤ 41) ∧ (1 ≤ 41 ∧ 41 ≤ 41) := by
  decide
theorem witness_EverySampleLayoutTilesTheBlock : 1 ≤ 1 ∧ 1 ≤ 84 := by decide
theorem witness_ConversionsFollowTheirFormulas : (9 < 10 ∧ 9 ≤ 10) ∧ (10 < 11 ∧ 10 ≤ 10 ∧ 10 ≤ 10) := by decide

/-- A forward-power function with slopes 0, 1, 0, 1, 0, 1. -/
def sampleWatts (c : Nat) : Nat := (min c 1380 - 874) + (min c 2615 - 2095) + (c - 3038)

/-- The constants of its segments. -/
def sampleIntercept (j : Nat) : Rat :=
  match j with
  | 0 => 0
  | 1 => -874
  | 2 => 506
  | 3 => -1589
  | 4 => 1026
  | _ => -2012

theorem witness_EveryAdmissibleForwardPowerIsAllowed : ForwardPowerAdmissible fun c => (sampleWatts c : Rat) := by
  refine ⟨⟨fun j => ((j % 2 : Nat) : Rat), sampleIntercept, ?_, ?_⟩, ?_, ?_⟩
  · intro j hj
    interval_cases j <;> norm_num
  · intro j hj c h1 h2
    have odd : ∀ k : Nat, sampleWatts c + k = c → (sampleWatts c : Rat) = (1 : Nat) * (c : Rat) + -(k : Rat) := by
      intro k hk
      have : (sampleWatts c : Rat) + k = c := by exact_mod_cast hk
      push_cast
      linarith
    have even : ∀ k : Nat, sampleWatts c = k → (sampleWatts c : Rat) = (0 : Nat) * (c : Rat) + (k : Rat) := by
      intro k hk
      rw [hk]
      push_cast
      ring
    interval_cases j <;> simp only [segmentOf] at h1 h2 <;> dsimp only
    · rw [even 0 (by unfold sampleWatts; omega)]; norm_num [sampleIntercept]
    · rw [odd 874 (by unfold sampleWatts; omega)]; norm_num [sampleIntercept]
    · rw [even 506 (by unfold sampleWatts; omega)]; norm_num [sampleIntercept]
    · rw [odd 1589 (by unfold sampleWatts; omega)]; norm_num [sampleIntercept]
    · rw [even 1026 (by unfold sampleWatts; omega)]; norm_num [sampleIntercept]
    · rw [odd 2012 (by unfold sampleWatts; omega)]; norm_num [sampleIntercept]
  · intro c _
    have h : sampleWatts c ≤ sampleWatts (c + 1) := by unfold sampleWatts; omega
    exact Nat.cast_le.mpr h
  · intro c _
    exact Nat.cast_nonneg _

/-- An outcome that a test reads is a next state with what was read. -/
theorem next_of_after {α : Type} {f : State → α} {o : Step} {v : α} (h : after f o = some v) :
    ∃ t, o = .next t ∧ f t = v := by
  cases o with
  | next t => exact ⟨t, rfl, by simpa [after] using h⟩
  | fault r => cases r
  | refused r => simp [after] at h

theorem witness_SelectorMapsFollowTheTables :
    0x00#8 &&& 0xFE#8 = 0x00#8 ∧ 0x22#8 &&& 0xFE#8 = 0x22#8 ∧ 0x24#8 &&& 0xFE#8 = 0x24#8 ∧ 0xFE#8 &&& 0xFE#8 = 0xFE#8 ∧
      0x20#8 &&& 0xF8#8 = 0x20#8 ∧ 0x28#8 &&& 0xF8#8 = 0x28#8 ∧ 0xF8#8 &&& 0xF8#8 = 0xF8#8 := by decide
theorem witness_DecodeOfEncodeIsTheInstruction :
    (Instr.stUnknown 0xFF#8).wf = true ∧ (Instr.discReply 0x00#8).wf = true ∧ (Instr.h2dUnknown 0x12#7 true).wf = true ∧
      (Instr.d2hUnknown 0x05#5 true false true).wf = true ∧ (Instr.sbD2hMulti 2).wf = true ∧
      (Instr.sbD2hMulti 300).wf = true := by decide
theorem witness_EncodeOfDecodeIsTheSelector :
    decode .h2dControl [0x25#8, 0x01#8] = .ok (.h2dUnknown 0x12#7 true) := by decide
theorem witness_EveryFetchedSelectorDecodes :
    fetch (busy .status 0 [0#8, 0#8, 4#8]) = .word .status [0x04#8] (busy .status 0 [0#8, 0#8, 4#8]) ∧
      fetch (busy .endpoint 8 [0#8, 0#8, 1#8, 2#8]) = .word .endpoint [0x02#8] (busy .endpoint 8 [0#8, 0#8, 1#8, 2#8]) ∧
      fetch (busy .h2dSamples 8 []) = .word .h2dSamples [] (busy .h2dSamples 8 []) ∧
      fetch (busy .d2hSamples 8 []) = .word .d2hSamples [0x00#8] (busy .d2hSamples 8 []) ∧
      fetch (busy .d2hControl 0 [1#8, 2#8, 3#8, 0x0D#8])
        = .word .d2hControl [0x0D#8] { busy .d2hControl 0 [1#8, 2#8, 3#8, 0x0D#8] with c0 := 0x0D#8, c0m := 0x08#8 } ∧
      fetch (busy .h2dControl 0 [0x7F#8, 0x7F#8, 0x7F#8, 0x03#8])
        = .word .h2dControl [0x03#8]
            { busy .h2dControl 0 [0x7F#8, 0x7F#8, 0x7F#8, 0x03#8] with c0 := 0x03#8, c0m := 0x02#8 } := by
  decide
theorem witness_StepRunsTheDecodedInstruction :
    fetch (busy .endpoint 8 [0#8, 0#8, 1#8, 2#8]) = .word .endpoint [0x02#8] (busy .endpoint 8 [0#8, 0#8, 1#8, 2#8]) ∧
      decode .endpoint [0x02#8] = .ok .ep2H2d := by decide

/-- A Host→Device sub-frame with `n` bytes before its marker. -/
def lateFrame (n : Nat) (bs : List Byte) : State :=
  busy .h2dControl 0 (List.replicate n 0#8 ++ [0x7F#8, 0x7F#8, 0x7F#8] ++ bs)

/-- The search with the marker at once and one byte late, each in the shortest datagram, and without a marker. -/
theorem witness_SyncSearchFindsTheFirstMarker :
    ((lateFrame 0 [0#8]).phase = .h2dControl ∧ (lateFrame 0 [0#8]).sampled.syncCheck = true ∧
        (lateFrame 0 [0#8]).cur + 0 + 4 ≤ (lateFrame 0 [0#8]).len ∧
        bytesAt (lateFrame 0 [0#8]) ((lateFrame 0 [0#8]).cur + 0) 3 = [0x7F#8, 0x7F#8, 0x7F#8]) ∧
      ((lateFrame 1 [0#8]).cur + 1 + 4 ≤ (lateFrame 1 [0#8]).len ∧
        bytesAt (lateFrame 1 [0#8]) ((lateFrame 1 [0#8]).cur + 1) 3 = [0x7F#8, 0x7F#8, 0x7F#8] ∧
        ∀ j < 1, bytesAt (lateFrame 1 [0#8]) ((lateFrame 1 [0#8]).cur + j) 3 ≠ [0x7F#8, 0x7F#8, 0x7F#8]) ∧
      ((lateFrame 1 []).cur + 1 + 3 = (lateFrame 1 []).len ∧
        bytesAt (lateFrame 1 []) ((lateFrame 1 []).cur + 1) 3 = [0x7F#8, 0x7F#8, 0x7F#8] ∧
        ∀ j < 1, bytesAt (lateFrame 1 []) ((lateFrame 1 []).cur + j) 3 ≠ [0x7F#8, 0x7F#8, 0x7F#8]) ∧
      ((busy .h2dControl 0 [0#8, 0#8, 0#8]).phase = .h2dControl ∧
        (busy .h2dControl 0 [0#8, 0#8, 0#8]).sampled.syncCheck = true ∧
        ∀ j, (busy .h2dControl 0 [0#8, 0#8, 0#8]).cur + j + 3 ≤ (busy .h2dControl 0 [0#8, 0#8, 0#8]).len →
          bytesAt (busy .h2dControl 0 [0#8, 0#8, 0#8]) ((busy .h2dControl 0 [0#8, 0#8, 0#8]).cur + j) 3
            ≠ [0x7F#8, 0x7F#8, 0x7F#8]) := by
  refine ⟨by decide, by decide, by decide, rfl, rfl, fun j h => ?_⟩
  have hj : j = 0 := by
    have h' : 0 + j + 3 ≤ 3 := h
    omega
  subst hj
  decide
theorem witness_UncheckedSyncIsTakenAtTheNominalStart :
    ({ busy .h2dControl 0 [1#8, 2#8, 3#8, 4#8] with sampled := ⟨true, true, false⟩ } : State).cur + 4
        ≤ ({ busy .h2dControl 0 [1#8, 2#8, 3#8, 4#8] with sampled := ⟨true, true, false⟩ } : State).len ∧
      ({ busy .h2dControl 0 [1#8, 2#8, 3#8, 4#8] with sampled := ⟨true, true, false⟩ } : State).phase = .h2dControl ∧
      ({ busy .h2dControl 0 [1#8, 2#8, 3#8, 4#8] with sampled := ⟨true, true, false⟩ } : State).sampled.syncCheck = false ∧
      (busy .d2hControl 0 [1#8, 2#8, 3#8, 4#8]).cur + 4 ≤ (busy .d2hControl 0 [1#8, 2#8, 3#8, 4#8]).len ∧
      (busy .d2hControl 0 [1#8, 2#8, 3#8, 4#8]).phase = .d2hControl ∧
      (busy .d2hControl 0 [1#8, 2#8]).len < (busy .d2hControl 0 [1#8, 2#8]).cur + 3 ∧
      (busy .d2hControl 0 [1#8, 2#8, 3#8]).len = (busy .d2hControl 0 [1#8, 2#8, 3#8]).cur + 3 := by decide

/-- A whole sub-frame at the nominal start. -/
def wholeFrame (ph : Phase) (sl : Slot) : State :=
  { busy ph 0 [0x7F#8, 0x7F#8, 0x7F#8] with len := 512, slot := sl }

/-- Two steps that both give a next state. -/
theorem two_steps {s : State} {ph : Phase} {r : Option Result}
    (h : after (fun t => (t.phase, after (fun u => u.result) (step t))) (step s) = some (ph, some r)) :
    ∃ t u, step s = .next t ∧ t.phase = ph ∧ step t = .next u ∧ u.result = r := by
  obtain ⟨t, ht, hv⟩ := next_of_after h
  obtain ⟨h1, h2⟩ := Prod.mk.inj hv
  obtain ⟨u, hu, hr⟩ := next_of_after h2
  exact ⟨t, u, ht, h1, hu, hr⟩

theorem witness_EverySubframeEnds512BytesAfterItsSync :
    (∃ t u, step (wholeFrame .h2dControl .one) = .next t ∧ t.phase = .h2dSamples ∧ step t = .next u ∧ u.result = none) ∧
      (∃ t u, step (wholeFrame .d2hControl .two) = .next t ∧ t.phase = .d2hSamples ∧ step t = .next u ∧
        u.result = some .ok) :=
  ⟨two_steps (by decide +kernel), two_steps (by decide +kernel)⟩

/-- A DECODE that has just started on the 4-byte datagram `EF FE 01 02`. -/
def started : State := busy .status 0 [0xEF#8, 0xFE#8, 0x01#8, 0x02#8]

/-- The same, with the 8 bytes of a DataTransfer header. -/
def startedData : State := busy .status 0 [0xEF#8, 0xFE#8, 0x01#8, 0x02#8, 0#8, 0#8, 0#8, 1#8]

theorem startedData_inv : startedData.Inv where
  bufferCanonical := by decide
  bufferBelowLen := by decide
  lenBound := by decide
  rcRange := by decide
  rfLegal := by decide
  curInBuffer := by decide
  busyNoResult := by decide
  busyInitialised := by decide
  fatalEmpty := fun _ _ => rfl
  statusCursor := by decide
  endpointCursor := by decide
  discoveryCursor := by decide
  sampleCursor := by decide
  dirH2d := by decide
  dirD2h := by decide

theorem witness_EveryStepKeepsTheInvariant : startedData.Inv ∧ ∃ t, step startedData = .next t ∧ t.phase = .endpoint :=
  ⟨startedData_inv, next_of_after (by decide +kernel)⟩

/-- A state whose OUT holds a field and a diagnostic. -/
def withItems : State :=
  { busy .endpoint 8 [0#8, 0#8, 1#8, 2#8] with out := [.field 3 1 .endpoint (.enum 2) [2#8], .diag .lateSync 1 4] }

theorem witness_EveryStepKeepsOutTrueOfTheDatagram :
    withItems.OutTrue ∧ ∃ t, step withItems = .next t ∧ t.out.length = 2 := by
  refine ⟨?_, next_of_after (by decide +kernel)⟩
  intro it hit
  rcases List.mem_cons.mp hit with rfl | hit
  · exact ⟨by decide, by decide⟩
  · rw [List.mem_singleton.mp hit]
    exact Nat.le_refl 4

theorem witness_EveryDecodeEndsWithAResult : started.phase ≠ .idle := by decide
theorem witness_OnlyTheirRulesWriteRcAndRf :
    (∃ t, exec .ep2H2d started = .next t ∧ t.phase = .h2dControl) ∧
      (∃ t, exec (.h2dConfig false) { record 0 0 0 0 8 with rf := 0b011#3 } = .next t ∧ t.phase = .h2dSamples) ∧
      ({ record 0 0 0 0 8 with rf := 0b011#3 } : State).rf ≠ 0b000#3 ∧
      ({ record 0 0 0 0 8 with rf := 0b011#3 } : State).rf ≠ 0b101#3 :=
  ⟨next_of_after (by decide +kernel), next_of_after (by decide +kernel), by decide, by decide⟩
theorem witness_NoInstructionWritesItsInputs :
    ∃ t, exec .stData startedData = .next t ∧ t.phase = .endpoint := next_of_after (by decide +kernel)
theorem witness_OutIsAppendOnlyOrDiscarded :
    (∃ t, exec .stData startedData = .next t ∧ t.out.length = 4) ∧
      ∃ t, exec .stData started = .next t ∧ t.result = some (.fatal (.truncated 4 4)) :=
  ⟨next_of_after (by decide +kernel), next_of_after (by decide +kernel)⟩
theorem witness_CursorNeverDecreasesWithinADecode :
    startedData.Inv ∧ startedData.phase ≠ .idle ∧ ∃ t, step startedData = .next t ∧ t.result = none :=
  ⟨startedData_inv, by decide, next_of_after (by decide +kernel)⟩
theorem witness_EveryInstructionHasANextState : started.phase ≠ .idle := by decide
theorem witness_PortsDoNotReachOtherRules : started.phase ≠ .idle ∧ started.phase ≠ .discovery := by decide
theorem witness_ExtraBytesReportsTheTrailingBytes :
    ((zeros 1).sampled.strictSize = true ∧ (zeros 1).cur < (zeros 1).len) ∧
      ({ zeros 1 with sampled := ⟨false, true, true⟩ } : State).sampled.strictSize = false ∧
      (zeros 0).len ≤ (zeros 0).cur := by decide

/-- An idle instance with transactions pending. -/
def waiting (rs : List Request) : State := { State.reset with pending := rs }

theorem witness_DecodeStartSamplesItsInputs :
    ((waiting [.decode [] 1#16 2#16]).phase = .idle ∧ (waiting [.decode [] 1#16 2#16]).initialised = true ∧
        (waiting [.decode [] 1#16 2#16]).pending = [.decode [] 1#16 2#16] ∧ ([] : List Byte).length ≤ 65535) ∧
      (waiting [.decode [0#8, 5#8] 1#16 2#16, .reset]).pending = [.decode [0#8, 5#8] 1#16 2#16, .reset] ∧
      (1 < [0#8, 5#8].length ∧ [0#8, 5#8].length ≤ 65535) := by decide
theorem witness_longest_datagram : (List.replicate 65535 0#8).length ≤ 65535 := by rw [List.length_replicate]
theorem witness_ResetAndConfigureWriteOnlyTheirState :
    ((waiting []).phase = .idle ∧ (waiting []).pending = []) ∧
      (waiting [.reset]).pending = [.reset] ∧
      (waiting [.configure ⟨false, false, false⟩, .reset]).pending = [.configure ⟨false, false, false⟩, .reset] := by decide
theorem witness_TransactionsOutsideTheModelAreRefused :
    started.phase ≠ .idle ∧
      (({ State.reset with initialised := false } : State).phase = .idle ∧
        ({ State.reset with initialised := false } : State).initialised = false) ∧
      (State.reset.phase = .idle ∧ State.reset.initialised = true) ∧ 65535 < (List.replicate 65536 0#8).length := by
  refine ⟨by decide, by decide, by decide, ?_⟩
  rw [List.length_replicate]
  decide

/-- An idle instance after a failed DECODE and one after RESET, which agree in RC, RF and the inputs. -/
theorem witness_OnlyRcAndRfCarryOver :
    let s₁ := { waiting [.decode [0#8] 1#16 2#16] with result := some (.fatal (.truncated 0 3)), len := 2, p := 9, cur := 1 }
    let s₂ := waiting [.decode [0#8] 1#16 2#16]
    s₁.phase = .idle ∧ s₂.phase = .idle ∧ s₁.rc = s₂.rc ∧ s₁.rf = s₂.rf ∧ s₁.inputs = s₂.inputs ∧
      s₁.initialised = s₂.initialised ∧ s₁.wellKnownPort = s₂.wellKnownPort ∧
      s₁.pending = [.decode [0#8] 1#16 2#16] ∧ s₂.pending = [.decode [0#8] 1#16 2#16] := by decide
theorem witness_SessionsDoNotInteract :
    sessionStep 1 [started, waiting [.reset]] = .next [started, State.reset] ∧ 0 ≠ 1 := by
  constructor
  · rfl
  · decide

end Sys2Proof.Tests
end

section
/-! SUPPORT. What an instruction can do, said once: the parts of a DECODE read fields on from the cursor or end it in a fatal
error (`Reads`), and every instruction ends in one of a few ways (`Ends`). -/

namespace Sys2Proof.Machine

/-! ### Parts of a DECODE that read fields -/

/-- The run `r`, begun in `s`, either ends in a fatal error of `s` or has found at least `n` bytes in the datagram, has moved
CUR to `c` and has appended items that are true of the datagram (rules R29, R54, R334). -/
def Reads (s : State) (c n : Nat) (r : Run) : Prop :=
  (∃ e, r = .trap (raise e s)) ∨
    ∃ items, (∀ it ∈ items, it.trueOf s) ∧ n ≤ s.len ∧ r = .go { s with cur := c, out := s.out ++ items }

theorem Reads.trap (s : State) (c n : Nat) (e : Fatal) : Reads s c n (.trap (raise e s)) := .inl ⟨e, rfl⟩

theorem Reads.go (s : State) (c n : Nat) (items : List Item) (hit : ∀ it ∈ items, it.trueOf s) (hn : n ≤ s.len) :
    Reads s c n (.go { s with cur := c, out := s.out ++ items }) := .inr ⟨items, hit, hn, rfl⟩

/-- What is read in sequence: the second part may use that the first found its bytes. -/
theorem Reads.andThen {s : State} {c n c' n' : Nat} {r : Run} {f : State → Run} (h : Reads s c n r)
    (hf : ∀ out, n ≤ s.len → Reads { s with cur := c, out := out } c' n' (f { s with cur := c, out := out })) :
    Reads s c' n' (r.andThen f) := by
  obtain ⟨e, rfl⟩ | ⟨items, hit, hn, rfl⟩ := h
  · exact .inl ⟨e, rfl⟩
  · obtain ⟨e, he⟩ | ⟨items', hit', hn', hgo⟩ := hf (s.out ++ items) hn
    · exact .inl ⟨e, he⟩
    · refine .inr ⟨items ++ items', fun it h => ?_, hn', ?_⟩
      · rcases List.mem_append.mp h with h | h
        · exact hit it h
        · exact hit' it h
      · rw [Run.andThen_go, hgo, List.append_assoc]

/-- How an outcome ends whose run reads fields and then updates the state by `k`. -/
theorem Reads.outcome_next {s t : State} {c n : Nat} {r : Run} {k : State → State} (h : Reads s c n r)
    (ht : (r.andThen fun u => .go (k u)).outcome = .next t) :
    (∃ e, t = raise e s) ∨
      ∃ items, (∀ it ∈ items, it.trueOf s) ∧ n ≤ s.len ∧ t = k { s with cur := c, out := s.out ++ items } := by
  obtain ⟨e, rfl⟩ | ⟨items, hit, hn, rfl⟩ := h
  · exact .inl ⟨e, by cases ht; rfl⟩
  · exact .inr ⟨items, hit, hn, by cases ht; rfl⟩

theorem need_reads (off n : Nat) (s : State) : Reads s s.cur (off + n) (need off n s) := by
  by_cases h : off + n ≤ s.len
  · rw [need_fits h]
    exact .inr ⟨[], by simp, h, by simp⟩
  · rw [need_short (Nat.lt_of_not_le h)]
    exact .trap _ _ _ _

/-- A field that fits is true of the datagram (rules R29 and R54). -/
theorem fieldItem_trueOf {f : FieldSpec} {s : State} (h : f.off + f.n ≤ s.len) : (fieldItem s f).trueOf s := ⟨h, rfl⟩

theorem emit_reads (f : FieldSpec) (s : State) : Reads s s.cur (f.off + f.n) (emit f s) := by
  rw [emit_spec]
  split
  · exact .trap _ _ _ _
  · next h =>
    have hfit : f.off + f.n ≤ s.len := Nat.le_of_not_lt h
    exact .go s s.cur _ [fieldItem s f] (by simpa using fieldItem_trueOf hfit) hfit

/-- A layout reaches every offset that one of its fields reaches. -/
theorem emitAll_reads {fs : List FieldSpec} {s : State} {n : Nat} (hn : n ≤ s.len ∨ ∃ f ∈ fs, n ≤ f.off + f.n) :
    Reads s s.cur n (emitAll fs s) := by
  rcases hr : emitAll fs s with t | t
  · obtain ⟨hfit, rfl⟩ := emitAll_go hr
    refine .go s s.cur n _ (fun it hit => ?_) ?_
    · obtain ⟨f, hf, rfl⟩ := List.mem_map.mp hit
      exact fieldItem_trueOf (hfit f hf)
    · rcases hn with hn | ⟨f, hf, hle⟩
      · exact hn
      · exact Nat.le_trans hle (hfit f hf)
  · obtain ⟨f, -, -, rfl⟩ := emitAll_trap hr
    exact .trap _ _ _ _

theorem padRegion_reads (off nominal : Nat) (s : State) :
    Reads s (off + padLength s nominal) (off + padLength s nominal) (padRegion off nominal s) := by
  rw [padRegion_spec]
  split
  · exact .trap _ _ _ _
  · next h =>
    have hfit : off + padLength s nominal ≤ s.len := Nat.le_of_not_lt h
    exact .go s _ _ [fieldItem s ⟨off, padLength s nominal, .pad, .bytes⟩] (by simpa using fieldItem_trueOf hfit) hfit

theorem header_reads (s : State) : Reads s 3 3 (header s) := by
  refine ((need_reads 0 3 s).andThen fun out hn => emitAll_reads (n := 3) (.inl hn)).andThen fun out hn => ?_
  exact .inr ⟨[], by simp, hn, by simp [goto]⟩

/-- LateSync is true of the datagram where P lies in it (rule R336). -/
theorem lateSync_reads {s : State} (h : s.p + 3 ≤ s.len) : Reads s s.cur (s.p + 3) (.go (lateSync s)) := by
  rw [lateSync_spec]
  refine .go s s.cur _ _ (fun it hit => ?_) h
  split at hit
  · rw [List.mem_singleton.mp hit]
    exact Nat.le_trans (Nat.le_add_right _ _) h
  · cases hit

theorem h2dHead_reads (c0m : Byte) (mox : Bool) (s : State) : Reads s s.cur (s.p + 8) (h2dHead c0m mox s) := by
  have hsync : Reads s s.cur (s.p + 3) ((emit ⟨s.p, 3, .sync, .bytes⟩ s).andThen fun t => .go (lateSync t)) :=
    (emit_reads _ s).andThen fun out hn => lateSync_reads (s := { s with out := out }) hn
  exact (hsync.andThen fun _ hn => emitAll_reads (n := s.p + 3) (.inl hn)).andThen fun _ _ => need_reads (s.p + 4) 4 _

theorem d2hHead_reads (c0m : Byte) (dot dash ptt : Bool) (s : State) :
    Reads s s.cur (s.p + 8) (d2hHead c0m dot dash ptt s) :=
  (emitAll_reads (n := 0) (.inl (Nat.zero_le _))).andThen fun _ _ => need_reads (s.p + 4) 4 _

/-! ### Sample layouts reach the end of their block -/

theorem h2dBlock_reaches_end (b : Nat) : ∃ f ∈ h2dBlockWith 504 b, b + 504 ≤ f.off + f.n := by
  refine ⟨⟨b + 8 * 62 + 6, 2, .q 62, .sint⟩, ?_, by dsimp only; omega⟩
  exact List.mem_flatMap.mpr ⟨62, by simp, by simp [h2dTuple]⟩

/-- A block that ends in a pad ends there; without one it ends in the last tuple's microphone sample (rules R305 and R307). -/
theorem d2hBlock_reaches_end (n b : Nat) : ∃ f ∈ d2hBlockWith 504 n b, b + 504 ≤ f.off + f.n := by
  have hdiv : (6 * n + 2) * (504 / (6 * n + 2)) + 504 % (6 * n + 2) = 504 := Nat.div_add_mod 504 (6 * n + 2)
  by_cases hpad : 0 < 504 % (6 * n + 2)
  · refine ⟨⟨b + 504 / (6 * n + 2) * (6 * n + 2), 504 % (6 * n + 2), .pad, .bytes⟩, ?_, ?_⟩
    · exact List.mem_append_right _ (by simp [d2hPad, hpad])
    · rw [Nat.mul_comm] at hdiv
      dsimp only
      omega
  · obtain ⟨k, hk⟩ : ∃ k, 504 / (6 * n + 2) = k + 1 := by
      refine Nat.exists_eq_succ_of_ne_zero fun h0 => ?_
      rw [h0] at hdiv
      omega
    refine ⟨⟨b + k * (6 * n + 2) + 6 * n, 2, .mic k, .sint⟩, ?_, ?_⟩
    · refine List.mem_append_left _ (List.mem_flatMap.mpr ⟨k, by simp [hk], ?_⟩)
      simp [d2hTuple]
    · rw [hk, Nat.mul_comm, Nat.succ_mul] at hdiv
      dsimp only
      omega

/-! ### The instructions of a family share one shape -/

/-- Every Host→Device control record is `h2dRecord`, and only H2D_CONFIG writes a register in it (rule R182). -/
theorem exec_of_h2dControl {i : Instr} (h : i.selMap = .h2dControl) :
    ∃ c0m mox layout write, (∀ s, exec i s = h2dRecord c0m mox layout write s) ∧
      (write = id ∨ (∃ b, i = .h2dConfig b) ∧ write = learnReceiverCount rcUpdateGuard) := by
  cases i
  case h2dConfig mox => exact ⟨_, _, _, _, fun _ => by unfold exec; rfl, .inr ⟨⟨mox, rfl⟩, rfl⟩⟩
  case h2dCwHangTone => exact ⟨_, _, _, _, fun _ => by unfold exec execH2dCwHangTone; rfl, .inl rfl⟩
  case h2dTxFreq | h2dRx1Freq | h2dRx2Freq | h2dRx3Freq | h2dRx4Freq | h2dRx5Freq | h2dRx6Freq | h2dRx7Freq
    | h2dDriveFilters | h2dPreampMicAdc1 | h2dAdc23Keyer | h2dMercury1Rsvd | h2dMercury2Rsvd | h2dAdcAssign
    | h2dCwSidetonePtt | h2dPwm | h2dUnknown => exact ⟨_, _, _, _, fun _ => by unfold exec; rfl, .inl rfl⟩
  all_goals cases h

/-- Every Device→Host control record is `d2hRecord`. -/
theorem exec_of_d2hControl {i : Instr} (h : i.selMap = .d2hControl) :
    ∃ c0m dot dash ptt layout, ∀ s, exec i s = d2hRecord c0m dot dash ptt layout s := by
  cases i
  case d2hFwdPower => exact ⟨_, _, _, _, _, fun _ => by unfold exec execD2hFwdPower; rfl⟩
  case d2hRevPower => exact ⟨_, _, _, _, _, fun _ => by unfold exec execD2hRevPower; rfl⟩
  case d2hSupply => exact ⟨_, _, _, _, _, fun _ => by unfold exec execD2hSupply; rfl⟩
  case d2hInfo | d2hAdcOverflow | d2hUnknown => exact ⟨_, _, _, _, _, fun _ => by unfold exec; rfl⟩
  all_goals cases h

/-- The Host→Device sample block covers its 504 bytes. -/
theorem exec_of_h2dSamples {i : Instr} (h : i.selMap = .h2dSamples) :
    ∃ layout, (∀ s, exec i s = sampleBlock Config.literals .h2d layout s) ∧
      ∀ b, ∃ f ∈ layout b, b + 504 ≤ f.off + f.n := by
  cases i
  case sbH2d => exact ⟨_, fun _ => rfl, h2dBlock_reaches_end⟩
  all_goals cases h

/-- Every Device→Host sample block covers its 504 bytes, whatever the receiver count. -/
theorem exec_of_d2hSamples {i : Instr} (h : i.selMap = .d2hSamples) :
    ∃ layout, (∀ s, exec i s = sampleBlock Config.literals .d2h layout s) ∧
      ∀ b, ∃ f ∈ layout b, b + 504 ≤ f.off + f.n := by
  cases i
  case sbD2hBlob =>
    exact ⟨_, fun _ => by unfold exec; rfl,
      fun b => ⟨⟨b, 504, .samples_raw, .bytes⟩, List.mem_singleton_self _, Nat.le_refl _⟩⟩
  case sbD2hOne => exact ⟨_, fun _ => rfl, d2hBlock_reaches_end 1⟩
  case sbD2hMulti n => exact ⟨_, fun _ => rfl, d2hBlock_reaches_end n⟩
  all_goals cases h

/-! ### The ways an instruction can end -/

/-- RF after an instruction: as before, or what ST_STARTSTOP has read from the run byte (rules R27 and R125). -/
def RfAfter (i : Instr) (s : State) (rf : BitVec 3) : Prop :=
  rf = s.rf ∨ i = .stStartstop ∧ rf = runFlagsEncode (byteAt s 3)

/-- RC after an instruction: as before, or what H2D_CONFIG has learned under the guard (rules R24 and R182). -/
def RcAfter (i : Instr) (s : State) (rc : BitVec 4) : Prop :=
  rc = s.rc ∨ (∃ mox, i = .h2dConfig mox) ∧ rcUpdateGuard s.rf = true ∧ rc = rcNew (byteAt s (s.p + 7))

/-- The map that reads the control record of a direction. -/
def Dir.controlMap : Dir → SelMap
  | .h2d => .h2dControl
  | .d2h => .d2hControl

/-- The map that reads the sample block of a direction. -/
def Dir.sampleMap : Dir → SelMap
  | .h2d => .h2dSamples
  | .d2h => .d2hSamples

/-- The place of a DECODE that has reached the sample block of a direction. -/
def Dir.samplePhase : Dir → Phase
  | .h2d => .h2dSamples
  | .d2h => .d2hSamples

/-- The ways instruction `i` can end when it is run in `s`; `items` are always true of the datagram. -/
inductive Ends (i : Instr) (s : State) : State → Prop
  /-- A fatal error (rule R334); RF as written before it stands (rule R335). -/
  | fatal (e : Fatal) {rf : BitVec 3} (hrf : RfAfter i s rf) : Ends i s (raise e { s with rf := rf })
  /-- ST_DATA: the endpoint selector comes next (rule R113). -/
  | toEndpoint {items : List Item} (hm : i.selMap = .status) (hn : 8 ≤ s.len) (hit : ∀ it ∈ items, it.trueOf s) :
      Ends i s (goto 8 .endpoint { s with out := s.out ++ items })
  /-- ST_DISCOVERY: the Discovery dispatch comes next (rule R119). -/
  | toDiscovery {items : List Item} (hm : i.selMap = .status) (hn : 3 ≤ s.len) (hit : ∀ it ∈ items, it.trueOf s) :
      Ends i s (goto 3 .discovery { s with out := s.out ++ items })
  /-- The endpoints 2 and 6: slot 1 (rules R114 and R115). -/
  | toSubframe (d : Dir) (hm : i.selMap = .endpoint) : Ends i s (enterSubframe d .one s)
  /-- A control record: the sample block comes next (rules R151 and R155). -/
  | toSamples (d : Dir) {rc : BitVec 4} {items : List Item} (hm : i.selMap = d.controlMap) (hrc : RcAfter i s rc)
      (hn : s.p + 8 ≤ s.len) (hit : ∀ it ∈ items, it.trueOf s) :
      Ends i s (goto (s.p + 8) d.samplePhase { s with rc := rc, out := s.out ++ items })
  /-- A sample block: the sub-frame ends (rules R157 and R158). -/
  | subframeEnd (d : Dir) {items : List Item} (hm : i.selMap = d.sampleMap) (hn : s.p + 512 ≤ s.len)
      (hit : ∀ it ∈ items, it.trueOf s) : Ends i s (endSubframe Config.literals d { s with out := s.out ++ items })
  /-- A datagram without sub-frames ends at CUR = `c` (rules R116 and R120 to R124). -/
  | complete {c : Nat} {rf : BitVec 3} {items : List Item} (hrf : RfAfter i s rf)
      (hc : i.selMap = .endpoint ∧ c = s.cur + 1024 ∨ i.selMap ∈ [.status, .discQuery, .discReply] ∧ 3 ≤ c)
      (hn : c ≤ s.len) (hit : ∀ it ∈ items, it.trueOf s) :
      Ends i s (finish { s with rf := rf, cur := c, out := s.out ++ items })

/-- A fatal error before anything is written. -/
theorem Ends.of_raise (i : Instr) (s : State) (e : Fatal) : Ends i s (raise e s) := .fatal e (.inl rfl)

/-- A datagram whose fields end in a pad region. -/
theorem Ends.of_pad {i : Instr} {s t : State} {c n off nominal : Nat} {r : Run} (hr : Reads s c n r) (hoff : 3 ≤ off)
    (hm : i.selMap ∈ [.status, .discQuery, .discReply])
    (h : ((r.andThen (padRegion off nominal)).andThen fun u => .go (finish u)).outcome = .next t) : Ends i s t := by
  have hpad : Reads s (off + padLength s nominal) (off + padLength s nominal) (r.andThen (padRegion off nominal)) :=
    hr.andThen fun out _ => padRegion_reads off nominal { s with cur := c, out := out }
  obtain ⟨e, rfl⟩ | ⟨items, hit, hn, rfl⟩ := hpad.outcome_next h
  · exact .of_raise i s e
  · exact .complete (.inl rfl) (.inr ⟨hm, by omega⟩) hn hit

theorem execStData_ends {s t : State} (h : exec .stData s = .next t) : Ends .stData s t := by
  obtain ⟨e, rfl⟩ | ⟨items, hit, hn, rfl⟩ :=
    ((header_reads s).andThen fun _ _ =>
      emitAll_reads (n := 8) (.inr ⟨⟨4, 4, .sequence, .uint⟩, by simp, Nat.le_refl 8⟩)).outcome_next h
  · exact .of_raise _ s e
  · exact .toEndpoint rfl hn hit

theorem execStDiscovery_ends {s t : State} (h : exec .stDiscovery s = .next t) : Ends .stDiscovery s t := by
  obtain ⟨e, rfl⟩ | ⟨items, hit, hn, rfl⟩ := (header_reads s).outcome_next h
  · exact .of_raise _ s e
  · exact .toDiscovery rfl hn hit

theorem execStSetip_ends {s t : State} (h : exec .stSetip s = .next t) : Ends .stSetip s t :=
  .of_pad ((header_reads s).andThen fun _ hn => emitAll_reads (.inl hn)) (by decide) (by decide) h

/-- ST_STARTSTOP writes RF between its fields and its pad, so a truncated pad leaves the new RF (rule R335). -/
theorem execStStartstop_ends {s t : State} (h : exec .stStartstop s = .next t) : Ends .stStartstop s t := by
  have hr := (header_reads s).andThen
    (f := emitAll [⟨3, 1, .iq_stream, .flag 0⟩, ⟨3, 1, .wideband_stream, .flag 1⟩]) fun _ hn => emitAll_reads (.inl hn)
  simp only [exec, execStStartstop, execStStartstopWith] at h
  obtain ⟨e, he⟩ | ⟨items, hit, hn, hgo⟩ := hr
  · rw [he] at h
    cases h
    exact .of_raise _ s e
  · rw [hgo] at h
    obtain ⟨e, rfl⟩ | ⟨items', hit', hn', rfl⟩ := (padRegion_reads 4 60 _).outcome_next h
    · exact .fatal e (.inr ⟨rfl, rfl⟩)
    · have hall : ∀ it ∈ items ++ items', it.trueOf s := fun it hmem =>
        (List.mem_append.mp hmem).elim (hit it) (hit' it)
      have hend := Ends.complete (i := .stStartstop) (s := s) (.inr ⟨rfl, rfl⟩)
        (.inr ⟨by decide, Nat.le_trans (by decide) (Nat.le_add_right 4 _)⟩) hn' hall
      rw [← List.append_assoc] at hend
      exact hend

theorem execStUnknown_ends {status : Byte} {s t : State} (h : exec (.stUnknown status) s = .next t) :
    Ends (.stUnknown status) s t := by
  simp only [exec, execStUnknown] at h
  obtain ⟨e, he⟩ | ⟨items, -, -, hgo⟩ := header_reads s
  · rw [he] at h
    cases h
    exact .of_raise _ s e
  · rw [hgo] at h
    cases h
    exact .of_raise _ s (.unknownStatus status)

theorem execEp4Raw_ends {s t : State} (h : exec .ep4Raw s = .next t) : Ends .ep4Raw s t := by
  simp only [exec, execEp4Raw] at h
  have hlast : ⟨s.cur + 2 * 511, 2, .ep4_sample 511, .sint⟩ ∈ ep4Layout s.cur := List.mem_map.mpr ⟨511, by simp, rfl⟩
  obtain ⟨e, rfl⟩ | ⟨items, hit, hn, rfl⟩ :=
    (emitAll_reads (n := s.cur + 1024) (.inr ⟨_, hlast, Nat.le_refl _⟩)).outcome_next
      (k := fun u => finish (goto (s.cur + 1024) u.phase u)) h
  · exact .of_raise _ s e
  · exact .complete (.inl rfl) (.inl ⟨rfl, rfl⟩) hn hit

theorem execDiscovery_ends {i : Instr} {s t : State} (hm : i.selMap = .discQuery ∨ i.selMap = .discReply)
    (h : exec i s = .next t) : Ends i s t := by
  cases i
  case discQuery => exact .of_pad (emit_reads _ s) (by decide) (by decide) h
  case discReply => exact .of_pad (emitAll_reads (n := 0) (.inl (Nat.zero_le _))) (by decide) (by simp [Instr.selMap]) h
  case discReplyHl =>
    exact .of_pad ((emitAll_reads (n := 0) (.inl (Nat.zero_le _))).andThen fun _ _ => emit_reads _ _) (by decide) (by decide) h
  all_goals rcases hm with hm | hm <;> cases hm

theorem h2dRecord_ends {i : Instr} {s t : State} (hm : i.selMap = .h2dControl) (h : exec i s = .next t) : Ends i s t := by
  obtain ⟨c0m, mox, layout, write, hi, hw⟩ := exec_of_h2dControl hm
  rw [hi, h2dRecord] at h
  obtain ⟨e, he⟩ | ⟨items, hit, hn, hgo⟩ :=
    (h2dHead_reads c0m mox s).andThen (f := emitAll (layout (s.p + 4))) fun _ hn => emitAll_reads (n := s.p + 8) (.inl hn)
  · rw [he] at h
    cases h
    exact .of_raise i s e
  · rw [hgo] at h
    rcases hw with rfl | ⟨hcfg, rfl⟩
    · cases h
      exact .toSamples .h2d hm (.inl rfl) hn hit
    · rw [Run.andThen_go, learnReceiverCount_spec] at h
      cases h
      refine .toSamples .h2d hm ?_ hn hit
      by_cases hg : rcUpdateGuard s.rf = true
      · exact .inr ⟨hcfg, hg, if_pos hg⟩
      · exact .inl (if_neg hg)

theorem d2hRecord_ends {i : Instr} {s t : State} (hm : i.selMap = .d2hControl) (h : exec i s = .next t) : Ends i s t := by
  obtain ⟨c0m, dot, dash, ptt, layout, hi⟩ := exec_of_d2hControl hm
  rw [hi] at h
  obtain ⟨e, rfl⟩ | ⟨items, hit, hn, rfl⟩ :=
    ((d2hHead_reads c0m dot dash ptt s).andThen fun _ hn => emitAll_reads (n := s.p + 8) (.inl hn)).outcome_next h
  · exact .of_raise i s e
  · exact .toSamples .d2h hm (.inl rfl) hn hit

theorem sampleBlock_ends {i : Instr} {s t : State} {layout : Nat → List FieldSpec} (d : Dir) (hm : i.selMap = d.sampleMap)
    (hend : ∀ b, ∃ f ∈ layout b, b + 504 ≤ f.off + f.n) (h : sampleBlock Config.literals d layout s = .next t) :
    Ends i s t := by
  obtain ⟨e, rfl⟩ | ⟨items, hit, hn, rfl⟩ :=
    (emitAll_reads (s := s) (n := s.p + 8 + 504) (.inr (hend (s.p + 8)))).outcome_next h
  · exact .of_raise i s e
  · exact .subframeEnd d hm hn hit

/-- Everything an instruction can do. -/
theorem exec_ends {i : Instr} {s t : State} (h : exec i s = .next t) : Ends i s t := by
  cases hm : i.selMap with
  | status =>
    cases i
    case stData => exact execStData_ends h
    case stDiscovery => exact execStDiscovery_ends h
    case stSetip => exact execStSetip_ends h
    case stStartstop => exact execStStartstop_ends h
    case stUnknown => exact execStUnknown_ends h
    all_goals cases hm
  | endpoint =>
    cases i
    case ep2H2d => cases h; exact .toSubframe .h2d rfl
    case ep4Raw => exact execEp4Raw_ends h
    case ep6D2h => cases h; exact .toSubframe .d2h rfl
    case epUnknown ep => cases h; exact .of_raise _ s (.unknownEndpoint ep)
    all_goals cases hm
  | discQuery => exact execDiscovery_ends (.inl hm) h
  | discReply => exact execDiscovery_ends (.inr hm) h
  | h2dControl => exact h2dRecord_ends hm h
  | d2hControl => exact d2hRecord_ends hm h
  | h2dSamples =>
    obtain ⟨layout, hi, hend⟩ := exec_of_h2dSamples hm
    exact sampleBlock_ends .h2d hm hend (hi s ▸ h)
  | d2hSamples =>
    obtain ⟨layout, hi, hend⟩ := exec_of_d2hSamples hm
    exact sampleBlock_ends .d2h hm hend (hi s ▸ h)

end Sys2Proof.Machine
end

section
/-! SUPPORT. What a fetch, the start of a transaction and a whole step can do, said once. -/

namespace Sys2Proof.Machine

/-! ### Fetching -/

/-- The place of a DECODE at which a map's selector is read. -/
def phaseOf : SelMap → Phase
  | .status => .status
  | .endpoint => .endpoint
  | .discQuery | .discReply => .discovery
  | .h2dControl => .h2dControl
  | .d2hControl => .d2hControl
  | .h2dSamples => .h2dSamples
  | .d2hSamples => .d2hSamples

theorem phaseOf_ne_idle (m : SelMap) : phaseOf m ≠ .idle := by cases m <;> decide

theorem fetch_idle {s : State} (h : s.phase = .idle) : fetch s = .idle := by simp [fetch, fetchWith, h]

/-- The status byte (rule R71). -/
theorem fetch_status {s : State} (h : s.phase = .status) :
    fetch s = (need 0 3 s).read .status fun s => [byteAt s 2] := by simp [fetch, fetchWith, h]

/-- The endpoint byte (rule R73). -/
theorem fetch_endpoint {s : State} (h : s.phase = .endpoint) :
    fetch s = (need 3 1 s).read .endpoint fun s => [byteAt s 3] := by simp [fetch, fetchWith, h]

/-- A Discovery query has no selector byte (rules R79 and R119). -/
theorem fetch_discQuery {s : State} (h : s.phase = .discovery) (hport : s.dstPort = s.wellKnownPort) :
    fetch s = .word .discQuery [] s := by simp [fetch, fetchWith, h, hport]

/-- The board id of a Discovery reply (rules R80 and R119). -/
theorem fetch_discReply {s : State} (h : s.phase = .discovery) (hport : s.dstPort ≠ s.wellKnownPort) :
    fetch s = (((need 3 6 s).andThen (need 9 1)).andThen (need 10 1)).read .discReply fun s => [byteAt s 10] := by
  simp [fetch, fetchWith, h, hport]

/-- A Host→Device sample block has no selector (rule R93). -/
theorem fetch_h2dSamples {s : State} (h : s.phase = .h2dSamples) : fetch s = .word .h2dSamples [] s := by
  simp [fetch, fetchWith, h]

/-- RC selects the Device→Host sample block (rule R93). -/
theorem fetch_d2hSamples {s : State} (h : s.phase = .d2hSamples) : fetch s = .word .d2hSamples [s.rc.setWidth 8] s := by
  simp [fetch, fetchWith, h]

/-- What a fetch can answer in `s`. -/
inductive Fetches (s : State) : Fetched → Prop
  /-- Between transactions nothing is fetched. -/
  | idle (h : s.phase = .idle) : Fetches s .idle
  /-- A fatal error; a sync search that has succeeded has written P and SKIP before it. -/
  | trap (e : Fatal) (p skip : Nat) (h : s.phase ≠ .idle) : Fetches s (.trap (raise e { s with p := p, skip := skip }))
  /-- A word outside the control maps: nothing is written. -/
  | plain {m : SelMap} (w : List Byte) (hm : s.phase = phaseOf m) (hd : ∀ d : Dir, m ≠ d.controlMap) : Fetches s (.word m w s)
  /-- The word of a control record, whose base P is not before CUR (rules R152, R153 and R155). -/
  | control (d : Dir) (w : List Byte) {p : Nat} (skip : Nat) (c0 c0m : Byte) (hm : s.phase = phaseOf d.controlMap)
      (hp : s.cur ≤ p) : Fetches s (.word d.controlMap w { s with p := p, skip := skip, c0 := c0, c0m := c0m })

theorem ne_controlMap {m : SelMap} (hh2d : m ≠ .h2dControl) (hd2h : m ≠ .d2hControl) (d : Dir) : m ≠ d.controlMap := by
  cases d with
  | h2d => exact hh2d
  | d2h => exact hd2h

/-- Need goes on with the state it was given, or raises Truncated in it. -/
theorem need_cases (off n : Nat) (s : State) : need off n s = .go s ∨ need off n s = .trap (raise (.truncated off n) s) := by
  by_cases h : off + n ≤ s.len
  · exact .inl (need_fits h)
  · exact .inr (need_short (Nat.lt_of_not_le h))

/-- The sync search finds a base at or after the nominal start, or is fatal (rules R152 and R153). -/
theorem syncLocate_cases (l : Literals) (o : Nat) (s : State) :
    (∃ k, syncLocate l o s = .go (setBase (o + k) k s)) ∨ ∃ e, syncLocate l o s = .trap (raise e s) := by
  unfold syncLocate
  split
  · split
    · exact .inl ⟨_, rfl⟩
    · exact .inr ⟨_, rfl⟩
  · rcases need_cases o 3 s with h | h
    · rw [h]
      exact .inl ⟨0, rfl⟩
    · rw [h]
      exact .inr ⟨_, rfl⟩

/-- Checks that leave the state alone, and then a selector word. -/
theorem fetches_read {s : State} {m : SelMap} {r : Run} {w : State → List Byte} (hm : s.phase = phaseOf m)
    (hd : ∀ d : Dir, m ≠ d.controlMap) (hr : r = .go s ∨ ∃ e, r = .trap (raise e s)) : Fetches s (r.read m w) := by
  rcases hr with rfl | ⟨e, rfl⟩
  · exact .plain _ hm hd
  · exact .trap e s.p s.skip (hm ▸ phaseOf_ne_idle m)

/-- Once the base is located, C0 is read (rules R151 and R155). -/
theorem fetches_readC0 {s : State} {r : Run} {w : State → List Byte} (d : Dir) (mask : Byte)
    (hm : s.phase = phaseOf d.controlMap)
    (hr : (∃ k, r = .go (setBase (s.cur + k) k s)) ∨ ∃ e, r = .trap (raise e s)) :
    Fetches s ((r.andThen fun s => (need (s.p + 3) 1 s).andThen fun s => .go (setC0 mask s)).read d.controlMap w) := by
  have hbusy : s.phase ≠ .idle := hm ▸ phaseOf_ne_idle _
  rcases hr with ⟨k, rfl⟩ | ⟨e, rfl⟩
  · rw [Run.andThen_go]
    rcases need_cases ((setBase (s.cur + k) k s).p + 3) 1 (setBase (s.cur + k) k s) with h | h
    · rw [h]
      exact .control d _ k _ _ hm (Nat.le_add_right _ _)
    · rw [h]
      exact .trap _ (s.cur + k) k hbusy
  · exact .trap e s.p s.skip hbusy

/-- Everything a fetch can do. -/
theorem fetch_fetches (s : State) : Fetches s (fetch s) := by
  cases hph : s.phase with
  | idle => rw [fetch_idle hph]; exact .idle hph
  | status =>
    rw [fetch_status hph]
    exact fetches_read hph (ne_controlMap nofun nofun) ((need_cases 0 3 s).imp_right fun h => ⟨_, h⟩)
  | endpoint =>
    rw [fetch_endpoint hph]
    exact fetches_read hph (ne_controlMap nofun nofun) ((need_cases 3 1 s).imp_right fun h => ⟨_, h⟩)
  | discovery =>
    by_cases hport : s.dstPort = s.wellKnownPort
    · rw [fetch_discQuery hph hport]
      exact .plain _ hph (ne_controlMap nofun nofun)
    · rw [fetch_discReply hph hport]
      refine fetches_read hph (ne_controlMap nofun nofun) ?_
      rcases need_cases 3 6 s with h | h
      · rcases need_cases 9 1 s with h' | h'
        · rw [h, Run.andThen_go, h', Run.andThen_go]
          exact (need_cases 10 1 s).imp_right fun h => ⟨_, h⟩
        · rw [h, Run.andThen_go, h']
          exact .inr ⟨_, rfl⟩
      · rw [h]
        exact .inr ⟨_, rfl⟩
  | h2dControl =>
    rw [fetch_h2dControl hph]
    exact fetches_readC0 .h2d _ hph (syncLocate_cases _ _ s)
  | d2hControl =>
    rw [fetch_d2hControl hph]
    refine fetches_readC0 .d2h _ hph ?_
    rcases need_cases s.cur 3 s with h | h
    · rw [h]
      exact .inl ⟨0, rfl⟩
    · rw [h]
      exact .inr ⟨_, rfl⟩
  | h2dSamples =>
    rw [fetch_h2dSamples hph]
    exact .plain _ hph (ne_controlMap nofun nofun)
  | d2hSamples =>
    rw [fetch_d2hSamples hph]
    exact .plain _ hph (ne_controlMap nofun nofun)

/-! ### Decoding -/

/-- The decoder answers an instruction of the map it was given. -/
theorem decode_selMap {m : SelMap} {w : List Byte} {i : Instr} (h : decode m w = .ok i) : i.selMap = m := by
  have hstatus : ∀ b, (decodeStatus b).selMap = .status := fun b => by unfold decodeStatus; split <;> rfl
  have hendpoint : ∀ b, (decodeEndpoint b).selMap = .endpoint := fun b => by unfold decodeEndpoint; split <;> rfl
  have hboard : ∀ b, (decodeBoard b).selMap = .discReply := fun b => by unfold decodeBoard; split <;> rfl
  have hh2d : ∀ b, (decodeH2d b).selMap = .h2dControl := fun b => by unfold decodeH2d; dsimp only; split <;> rfl
  have hd2h : ∀ b, (decodeD2h b).selMap = .d2hControl := fun b => by unfold decodeD2h; dsimp only; split <;> rfl
  have hlayout : ∀ n, (decodeLayout n).selMap = .d2hSamples := fun n => by unfold decodeLayout; split <;> rfl
  unfold decode at h
  split at h <;> cases h
  · rfl
  · rfl
  · exact hstatus _
  · exact hendpoint _
  · exact hboard _
  · exact hh2d _
  · exact hd2h _
  · exact hlayout _

/-! ### Starting a transaction, and the whole step -/

/-- What an idle step can do (rules R20 to R22, R346, R370, R380). -/
inductive Starts (s : State) : State → Prop
  | nothing (hp : s.pending = []) : Starts s s
  | decode {bytes : List Byte} {src dst : Port} {rest : List Request} (hp : s.pending = .decode bytes src dst :: rest)
      (hinit : s.initialised = true) (hlen : bytes.length ≤ 65535) :
      Starts s (beginDecode bytes src dst { s with pending := rest })
  | reset {rest : List Request} (hp : s.pending = .reset :: rest) : Starts s (resetTransaction { s with pending := rest })
  | configure {tg : Toggles} {rest : List Request} (hp : s.pending = .configure tg :: rest) :
      Starts s { s with pending := rest, inputs := tg }

/-- No transaction starts while a DECODE is in progress (rule R351). -/
theorem startWith_busy (l : Literals) {s : State} (r : Request) (h : s.phase ≠ .idle) :
    startWith l r s = .refused .overlappingTransaction := by
  unfold startWith
  rw [if_pos h]

/-- Between transactions the request decides (rules R20, R21 and R372). -/
theorem startWith_idle (l : Literals) {s : State} (r : Request) (h : s.phase = .idle) :
    startWith l r s = match r with
      | .decode bytes src dst =>
        if s.initialised = false then .refused .decodeBeforeReset
        else if l.maxLen < bytes.length then .refused .datagramTooLong
        else .next (beginDecode bytes src dst s)
      | .reset => .next (resetTransaction s)
      | .configure t => .next { s with inputs := t } := by
  unfold startWith
  rw [if_neg (by simp [h])]
  cases r with
  | decode => cases s.initialised <;> rfl
  | reset => rfl
  | configure => rfl

theorem startWith_decode (l : Literals) {s : State} {bytes : List Byte} (src dst : Port) (h : s.phase = .idle) :
    startWith l (.decode bytes src dst) s =
      if s.initialised = false then .refused .decodeBeforeReset
      else if l.maxLen < bytes.length then .refused .datagramTooLong
      else .next (beginDecode bytes src dst s) := startWith_idle l _ h

theorem nextRequest_starts {s t : State} (hidle : s.phase = .idle) (h : nextRequest Config.literals s = .next t) :
    Starts s t := by
  unfold nextRequest at h
  split at h
  · next hp =>
    cases h
    exact .nothing hp
  · next r rest hp =>
    rw [startWith_idle _ (s := { s with pending := rest }) r hidle] at h
    cases r with
    | decode bytes src dst =>
      dsimp only at h
      split at h
      · cases h
      · next hinit =>
        split at h
        · cases h
        · next hlen =>
          cases h
          exact .decode hp (by simpa using hinit) (Nat.le_of_not_lt hlen)
    | reset => cases h; exact .reset hp
    | configure tg => cases h; exact .configure hp

/-- What a step can do: an idle block starts a transaction; a DECODE in progress takes a fatal error in its fetch, or runs
one instruction of the map its place reads. -/
inductive Steps (s : State) : State → Prop
  | start {t : State} (hidle : s.phase = .idle) (h : Starts s t) : Steps s t
  | trap (hbusy : s.phase ≠ .idle) (e : Fatal) (p skip : Nat) : Steps s (raise e { s with p := p, skip := skip })
  | run {i : Instr} {w : List Byte} {u t : State} (hf : Fetches s (.word i.selMap w u)) (h : Ends i u t) : Steps s t

theorem step_eq (s : State) :
    step s = match fetch s with
      | .idle => nextRequest Config.literals s
      | .trap t => .next t
      | .word m w t => match decode m w with
        | .ok i => exec i t
        | .error e => .refused (.undecodable e) := rfl

theorem step_steps {s t : State} (h : step s = .next t) : Steps s t := by
  have hf := fetch_fetches s
  rw [step_eq] at h
  generalize fetch s = r at hf h
  cases r with
  | idle =>
    cases hf with
    | idle hidle => exact .start hidle (nextRequest_starts hidle h)
  | trap v =>
    cases hf with
    | trap e p skip hbusy => cases h; exact .trap hbusy e p skip
  | word m w u =>
    dsimp only at h
    split at h
    · next i hd =>
      obtain rfl := decode_selMap hd
      exact .run hf (exec_ends h)
    · cases h

end Sys2Proof.Machine
end

section
/-! SUPPORT. What every instruction leaves unchanged, the invariant and the truth of OUT, each from the ways an instruction
can end (`Ends`) and a step can go (`Steps`). -/

namespace Sys2Proof.Machine

/-! ### Frame -/

/-- ExtraBytes after the last field (rule R127). -/
theorem extraBytesCheck_spec (s : State) :
    extraBytesCheck s = { s with out := s.out ++
      if s.sampled.strictSize && decide (s.cur < s.len) then [.diag .extraBytes (s.len - s.cur) s.cur] else [] } := by
  unfold extraBytesCheck
  split
  · rfl
  · rw [List.append_nil]

/-- A DECODE that completes writes OUT, RESULT and the place only (rules R127 and R128). -/
theorem finish_spec (s : State) :
    finish s = { s with
      out := s.out ++
        if s.sampled.strictSize && decide (s.cur < s.len) then [.diag .extraBytes (s.len - s.cur) s.cur] else []
      result := some .ok
      phase := .idle } := by
  rw [finish, extraBytesCheck_spec]

/-- An instruction writes nothing but RC, RF, the cursor, the place, OUT and RESULT. -/
theorem Ends.frame {i : Instr} {s t : State} (h : Ends i s t) :
    t = { s with rc := t.rc, rf := t.rf, cur := t.cur, phase := t.phase, dir := t.dir, slot := t.slot, out := t.out,
                 result := t.result } := by
  cases h with
  | fatal | toEndpoint | toDiscovery | toSubframe | toSamples => rfl
  | subframeEnd =>
    rw [endSubframe_spec]
    split
    · rfl
    · rw [finish_spec]
  | complete => rw [finish_spec]

/-- RC and RF after an instruction. -/
theorem Ends.rc_rf {i : Instr} {s t : State} (h : Ends i s t) : RcAfter i s t.rc ∧ RfAfter i s t.rf := by
  cases h with
  | fatal e hrf => exact ⟨.inl rfl, hrf⟩
  | toEndpoint | toDiscovery | toSubframe => exact ⟨.inl rfl, .inl rfl⟩
  | toSamples d hm hrc => exact ⟨hrc, .inl rfl⟩
  | subframeEnd =>
    rw [endSubframe_spec]
    split
    · exact ⟨.inl rfl, .inl rfl⟩
    · exact ⟨.inl (finish_rc _), .inl (finish_rf _)⟩
  | complete hrf => exact ⟨.inl (finish_rc _), by rw [finish_rf]; exact hrf⟩

/-- The guard admits exactly 0b000 and 0b101 (rule R182). -/
theorem rcUpdateGuard_iff (rf : BitVec 3) : rcUpdateGuard rf = true ↔ rf = 0b000#3 ∨ rf = 0b101#3 := by
  revert rf
  decide

/-! ### The invariant -/

/-- What the invariant asks of CUR and DIR at the place a DECODE has reached. -/
def PlaceHolds (s : State) : Prop :=
  match s.phase with
  | .idle => True
  | .status => s.cur = 0
  | .endpoint => s.cur = 8
  | .discovery => s.cur = 3
  | .h2dControl => s.dir = .h2d
  | .h2dSamples => s.cur = s.p + 8 ∧ s.dir = .h2d
  | .d2hControl => s.dir = .d2h
  | .d2hSamples => s.cur = s.p + 8 ∧ s.dir = .d2h

/-- The invariant of a state from its parts: the place's own demands are gathered in `PlaceHolds`. -/
theorem inv_of_placeHolds {t : State} (hwf : Memory.wf t.dg = true) (hbelow : memoryBelow t.len t.dg = true)
    (hlen : t.len ≤ Config.literals.maxLen) (hrc : t.rc.toNat ≤ 8) (hrf : legalRunFlags t.rf = true) (hcur : t.cur ≤ t.len)
    (hbusy : t.phase ≠ .idle → t.result = none ∧ t.initialised = true)
    (hfatal : ∀ e, t.result = some (.fatal e) → t.out = []) (hplace : PlaceHolds t) : t.Inv where
  bufferCanonical := hwf
  bufferBelowLen := hbelow
  lenBound := hlen
  rcRange := hrc
  rfLegal := hrf
  curInBuffer := hcur
  busyNoResult h := (hbusy h).1
  busyInitialised h := (hbusy h).2
  fatalEmpty := hfatal
  statusCursor h := by simpa [PlaceHolds, h] using hplace
  endpointCursor h := by simpa [PlaceHolds, h] using hplace
  discoveryCursor h := by simpa [PlaceHolds, h] using hplace
  sampleCursor h := by rcases h with h | h <;> simp only [PlaceHolds, h] at hplace <;> exact hplace.1
  dirH2d h := by
    rcases h with h | h <;> simp only [PlaceHolds, h] at hplace
    · exact hplace
    · exact hplace.2
  dirD2h h := by
    rcases h with h | h <;> simp only [PlaceHolds, h] at hplace
    · exact hplace
    · exact hplace.2

/-- The invariant of a state that holds the same datagram as one with the invariant. -/
theorem State.Inv.of_same_buffer {s t : State} (hs : s.Inv) (hdg : t.dg = s.dg) (hlen : t.len = s.len)
    (hrc : t.rc.toNat ≤ 8) (hrf : legalRunFlags t.rf = true) (hcur : t.cur ≤ s.len)
    (hbusy : t.phase ≠ .idle → t.result = none ∧ t.initialised = true)
    (hfatal : ∀ e, t.result = some (.fatal e) → t.out = []) (hplace : PlaceHolds t) : t.Inv :=
  inv_of_placeHolds (hdg ▸ hs.bufferCanonical) (by rw [hdg, hlen]; exact hs.bufferBelowLen) (hlen ▸ hs.lenBound) hrc hrf
    (hlen ▸ hcur) hbusy hfatal hplace

theorem State.Inv.placeHolds {s : State} (hs : s.Inv) : PlaceHolds s := by
  unfold PlaceHolds
  split
  next => trivial
  next h => exact hs.statusCursor h
  next h => exact hs.endpointCursor h
  next h => exact hs.discoveryCursor h
  next h => exact hs.dirH2d (.inl h)
  next h => exact ⟨hs.sampleCursor (.inl h), hs.dirH2d (.inr h)⟩
  next h => exact hs.dirD2h (.inl h)
  next h => exact ⟨hs.sampleCursor (.inr h), hs.dirD2h (.inr h)⟩

/-- The receiver count that C4 can give is in 1..8 (rule R181). -/
theorem rcNew_le (c4 : Byte) : (rcNew c4).toNat ≤ 8 := by
  have h : bitField c4 5 3 < 8 := Nat.mod_lt _ (by decide)
  simp only [rcNew, BitVec.toNat_ofNat]
  omega

theorem RcAfter.le {i : Instr} {s : State} {rc : BitVec 4} (h : RcAfter i s rc) (hs : s.Inv) : rc.toNat ≤ 8 := by
  rcases h with rfl | ⟨-, -, rfl⟩
  · exact hs.rcRange
  · exact rcNew_le _

/-- RUN_FLAGS_ENCODE gives one of the values of rule R125. -/
theorem legalRunFlags_runFlagsEncode (w : Byte) : legalRunFlags (runFlagsEncode w) = true := by
  unfold runFlagsEncode
  cases w.getLsbD 0 <;> cases w.getLsbD 1 <;> decide

theorem RfAfter.legal {i : Instr} {s : State} {rf : BitVec 3} (h : RfAfter i s rf) (hs : s.Inv) :
    legalRunFlags rf = true := by
  rcases h with rfl | ⟨-, rfl⟩
  · exact hs.rfLegal
  · exact legalRunFlags_runFlagsEncode _

/-- A fatal error keeps the invariant, with any legal RF and any base. -/
theorem raise_inv {s : State} (hs : s.Inv) (e : Fatal) {rf : BitVec 3} (hrf : legalRunFlags rf = true) (p skip : Nat) :
    (raise e { s with rf := rf, p := p, skip := skip }).Inv :=
  hs.of_same_buffer rfl rfl hs.rcRange hrf (Nat.zero_le _) (fun h => absurd rfl h) (fun _ _ => rfl) trivial

/-- A DECODE that completes keeps the invariant. -/
theorem finish_inv {s t : State} (hs : s.Inv) (hdg : t.dg = s.dg) (hlen : t.len = s.len) (hrc : t.rc = s.rc)
    (hrf : legalRunFlags t.rf = true) (hcur : t.cur ≤ s.len) : (finish t).Inv :=
  hs.of_same_buffer (by simp [hdg]) (by simp [hlen]) (by simpa [hrc] using hs.rcRange) (by simpa using hrf)
    (by simpa using hcur) (fun h => absurd (finish_phase t) h) (fun e he => by simp at he) (by simp [PlaceHolds])

/-- An instruction run at its place keeps the invariant. -/
theorem Ends.inv {i : Instr} {s t : State} (h : Ends i s t) (hs : s.Inv) (hplace : s.phase = phaseOf i.selMap) : t.Inv := by
  have hbusy : s.phase ≠ .idle := hplace ▸ phaseOf_ne_idle _
  have hnone : s.result = none := hs.busyNoResult hbusy
  have hinit : s.initialised = true := hs.busyInitialised hbusy
  have hfatal : ∀ (out : List Item) (e : Fatal), s.result = some (.fatal e) → out = [] := fun _ e he => by simp [hnone] at he
  cases h with
  | fatal e hrf => exact raise_inv hs e (hrf.legal hs) s.p s.skip
  | toEndpoint hm hn hit =>
    exact hs.of_same_buffer rfl rfl hs.rcRange hs.rfLegal hn (fun _ => ⟨hnone, hinit⟩) (hfatal _) rfl
  | toDiscovery hm hn hit =>
    exact hs.of_same_buffer rfl rfl hs.rcRange hs.rfLegal hn (fun _ => ⟨hnone, hinit⟩) (hfatal _) rfl
  | toSubframe d hm =>
    exact hs.of_same_buffer rfl rfl hs.rcRange hs.rfLegal hs.curInBuffer (fun _ => ⟨hnone, hinit⟩) (hfatal _)
      (by cases d <;> rfl)
  | toSamples d hm hrc hn hit =>
    refine hs.of_same_buffer rfl rfl (hrc.le hs) hs.rfLegal hn (fun _ => ⟨hnone, hinit⟩) (hfatal _) ?_
    rw [hm] at hplace
    cases d with
    | h2d => exact ⟨rfl, hs.dirH2d (.inl hplace)⟩
    | d2h => exact ⟨rfl, hs.dirD2h (.inl hplace)⟩
  | subframeEnd d hm hn hit =>
    rw [endSubframe_spec]
    split
    · exact hs.of_same_buffer rfl rfl hs.rcRange hs.rfLegal hn (fun _ => ⟨hnone, hinit⟩) (hfatal _) (by cases d <;> rfl)
    · exact finish_inv hs rfl rfl rfl hs.rfLegal hn
  | complete hrf hc hn hit => exact finish_inv hs rfl rfl rfl (hrf.legal hs) hn

/-- A fetched word leaves the invariant, at the place of its map. -/
theorem Fetches.inv {s u : State} {m : SelMap} {w : List Byte} (h : Fetches s (.word m w u)) (hs : s.Inv) :
    u.Inv ∧ u.phase = phaseOf m := by
  cases h with
  | plain _ hm _ => exact ⟨hs, hm⟩
  | control d _ skip c0 c0m hm hp =>
    refine ⟨hs.of_same_buffer rfl rfl hs.rcRange hs.rfLegal hs.curInBuffer
      (fun h => ⟨hs.busyNoResult h, hs.busyInitialised h⟩) hs.fatalEmpty ?_, hm⟩
    have hplace := hs.placeHolds
    cases d <;> simpa [PlaceHolds, hm, Dir.controlMap, phaseOf] using hplace

/-- The start of a transaction keeps the invariant. -/
theorem Starts.inv {s t : State} (h : Starts s t) (hs : s.Inv) (hidle : s.phase = .idle) : t.Inv := by
  have hplace : ∀ {u : State}, u.phase = s.phase → PlaceHolds u := fun hu => by simp [PlaceHolds, hu, hidle]
  cases h with
  | nothing => exact hs
  | decode hp hinit hlen =>
    exact inv_of_placeHolds (loadBytes_wf _ 0) (loadBytes_below _ 0 _ (by simp)) hlen hs.rcRange hs.rfLegal (Nat.zero_le _)
      (fun _ => ⟨rfl, hinit⟩) (fun _ _ => rfl) rfl
  | reset =>
    exact hs.of_same_buffer rfl rfl (Nat.zero_le 8) rfl hs.curInBuffer (fun h => absurd hidle h) (fun _ _ => rfl)
      (hplace rfl)
  | configure =>
    exact hs.of_same_buffer rfl rfl hs.rcRange hs.rfLegal hs.curInBuffer (fun h => absurd hidle h) hs.fatalEmpty (hplace rfl)

theorem Steps.inv {s t : State} (h : Steps s t) (hs : s.Inv) : t.Inv := by
  cases h with
  | start hidle h => exact h.inv hs hidle
  | trap hbusy e p skip => exact raise_inv hs e hs.rfLegal p skip
  | run hf h =>
    obtain ⟨hu, hplace⟩ := hf.inv hs
    exact h.inv hu hplace

/-! ### The cursor -/

/-- An instruction that is not fatal does not move CUR back: it starts where its place says. -/
theorem Ends.cur_le {i : Instr} {s t : State} (h : Ends i s t) (hs : s.Inv) (hplace : s.phase = phaseOf i.selMap)
    (hbase : ∀ d : Dir, i.selMap = d.controlMap → s.cur ≤ s.p) (hok : ∀ e, t.result ≠ some (.fatal e)) : s.cur ≤ t.cur := by
  have hstart : ∀ {v}, i.selMap ∈ [.status, .discQuery, .discReply] → 3 ≤ v → s.cur ≤ v := fun hm hv => by
    simp only [List.mem_cons, List.not_mem_nil, or_false] at hm
    rcases hm with hm | hm | hm <;> rw [hm] at hplace
    · simp [hs.statusCursor hplace]
    · rw [hs.discoveryCursor hplace]; exact hv
    · rw [hs.discoveryCursor hplace]; exact hv
  cases h with
  | fatal e => exact absurd rfl (hok e)
  | toEndpoint hm => exact hstart (by simp [hm]) (by decide : 3 ≤ 8)
  | toDiscovery hm => exact hstart (by simp [hm]) (Nat.le_refl 3)
  | toSubframe d hm => exact Nat.le_refl _
  | toSamples d hm => exact Nat.le_add_right_of_le (hbase d hm)
  | subframeEnd d hm =>
    have hcur : s.cur = s.p + 8 := hs.sampleCursor (by cases d <;> simp [hplace, hm, Dir.sampleMap, phaseOf])
    have hend : s.cur ≤ s.p + 512 := by omega
    rw [endSubframe_spec]
    split
    · exact hend
    · rw [finish_cur]; exact hend
  | complete hrf hc =>
    rw [finish_cur]
    rcases hc with ⟨-, rfl⟩ | ⟨hm, hc⟩
    · exact Nat.le_add_right _ _
    · exact hstart hm hc

theorem Steps.cur_le {s t : State} (h : Steps s t) (hs : s.Inv) (hbusy : s.phase ≠ .idle)
    (hok : ∀ e, t.result ≠ some (.fatal e)) : s.cur ≤ t.cur := by
  cases h with
  | start hidle => exact absurd hidle hbusy
  | trap _ e => exact absurd rfl (hok e)
  | @run i w u _ hf h =>
    obtain ⟨hu, hplace⟩ := hf.inv hs
    have hcur : u.cur = s.cur ∧ ∀ d : Dir, i.selMap = d.controlMap → u.cur ≤ u.p := by
      generalize i.selMap = m at hf ⊢
      cases hf with
      | plain _ _ hd => exact ⟨rfl, fun d hm => absurd hm (hd d)⟩
      | control _ _ _ _ _ _ hp => exact ⟨rfl, fun _ _ => hp⟩
    exact hcur.1 ▸ h.cur_le hu hplace hcur.2 hok

/-! ### The truth of OUT -/

/-- Only DG and L decide whether an item is true of the datagram. -/
theorem outTrue_of_items {s t : State} (hdg : t.dg = s.dg) (hlen : t.len = s.len) (h : ∀ it ∈ t.out, it.trueOf s) :
    t.OutTrue := fun it hit => by
  have htrue := h it hit
  cases it with
  | field off n name v raw => simpa [Item.trueOf, bytesAt, byteAt, hdg, hlen] using htrue
  | diag kind info off => simpa [Item.trueOf, hlen] using htrue

/-- What is appended to a true OUT. -/
theorem forall_mem_append_trueOf {s : State} {items : List Item} (hs : s.OutTrue) (hit : ∀ it ∈ items, it.trueOf s) :
    ∀ it ∈ s.out ++ items, it.trueOf s := fun it h => (List.mem_append.mp h).elim (hs it) (hit it)

/-- ExtraBytes stands within the datagram (rule R127). -/
theorem finish_outTrue {s : State} (hs : s.OutTrue) : (finish s).OutTrue := by
  rw [finish_spec]
  refine outTrue_of_items rfl rfl (forall_mem_append_trueOf hs fun it hit => ?_)
  split at hit
  · next h =>
    rw [List.mem_singleton.mp hit]
    simp only [Bool.and_eq_true, decide_eq_true_eq] at h
    exact Nat.le_of_lt h.2
  · cases hit

theorem Ends.outTrue {i : Instr} {s t : State} (h : Ends i s t) (hs : s.OutTrue) : t.OutTrue := by
  cases h with
  | fatal => exact fun it hit => nomatch hit
  | toEndpoint _ _ hit => exact outTrue_of_items rfl rfl (forall_mem_append_trueOf hs hit)
  | toDiscovery _ _ hit => exact outTrue_of_items rfl rfl (forall_mem_append_trueOf hs hit)
  | toSubframe => exact outTrue_of_items rfl rfl hs
  | toSamples _ _ _ _ hit => exact outTrue_of_items rfl rfl (forall_mem_append_trueOf hs hit)
  | subframeEnd d _ _ hit =>
    rw [endSubframe_spec]
    split
    · exact outTrue_of_items rfl rfl (forall_mem_append_trueOf hs hit)
    · exact finish_outTrue (outTrue_of_items rfl rfl (forall_mem_append_trueOf hs hit))
  | complete _ _ _ hit => exact finish_outTrue (outTrue_of_items rfl rfl (forall_mem_append_trueOf hs hit))

theorem Starts.outTrue {s t : State} (h : Starts s t) (hs : s.OutTrue) : t.OutTrue := by
  cases h with
  | nothing => exact hs
  | decode | reset => exact fun it hit => nomatch hit
  | configure => exact outTrue_of_items rfl rfl hs

theorem Fetches.outTrue {s u : State} {m : SelMap} {w : List Byte} (h : Fetches s (.word m w u)) (hs : s.OutTrue) :
    u.OutTrue := by
  cases h with
  | plain => exact hs
  | control => exact outTrue_of_items rfl rfl hs

theorem Steps.outTrue {s t : State} (h : Steps s t) (hs : s.OutTrue) : t.OutTrue := by
  cases h with
  | start _ h => exact h.outTrue hs
  | trap => exact fun it hit => nomatch hit
  | run hf h => exact h.outTrue (hf.outTrue hs)

end Sys2Proof.Machine
end

section
/-! THEOREMS. The obligations about an instruction's effects and about what every step keeps. -/

namespace Sys2Proof.Proofs

open Sys2Proof Sys2Proof.Machine Sys2Proof.Spec

/-- Settles O46: a step is the start of a transaction, a fatal error in its fetch, or one instruction run at the place of its
map, and each of them keeps the invariant. -/
theorem everyStepKeepsTheInvariant : Obligations.EveryStepKeepsTheInvariant :=
  fun _ _ hs h => (step_steps h).inv hs

/-- Settles O47: every item that an instruction appends is true of the datagram, and only the start of a DECODE, which
clears OUT, changes the datagram. -/
theorem everyStepKeepsOutTrueOfTheDatagram : Obligations.EveryStepKeepsOutTrueOfTheDatagram :=
  fun _ _ hs h => (step_steps h).outTrue hs

/-- Settles O49, from the values that RC and RF can have after an instruction (`Ends.rc_rf`). -/
theorem onlyTheirRulesWriteRcAndRf : Obligations.OnlyTheirRulesWriteRcAndRf := by
  intro i s t h
  obtain ⟨hrc, hrf⟩ := (exec_ends h).rc_rf
  refine ⟨fun hi => ?_, fun hi => ?_, fun h0 h5 => ?_⟩
  · rcases hrc with hrc | ⟨⟨mox, hcfg⟩, -⟩
    · exact hrc
    · exact absurd hcfg (hi mox)
  · rcases hrf with hrf | ⟨hst, -⟩
    · exact hrf
    · exact absurd hst hi
  · rcases hrc with hrc | ⟨-, hguard, -⟩
    · exact hrc
    · exact absurd ((rcUpdateGuard_iff s.rf).mp hguard) (not_or.mpr ⟨h0, h5⟩)

/-- Settles O50: the registers named are outside what an instruction writes (`Ends.frame`). -/
theorem noInstructionWritesItsInputs : Obligations.NoInstructionWritesItsInputs := by
  intro i s t h
  rw [(exec_ends h).frame]
  exact ⟨rfl, rfl, rfl, rfl, rfl, rfl, rfl, rfl, rfl, rfl, rfl, rfl, rfl⟩

/-- Settles O52: the upper bound is the invariant's, the lower one comes from where each place starts. -/
theorem cursorNeverDecreasesWithinADecode : Obligations.CursorNeverDecreasesWithinADecode :=
  fun _ _ hs hbusy h hok => ⟨(step_steps h).cur_le hs hbusy hok, ((step_steps h).inv hs).curInBuffer⟩

end Sys2Proof.Proofs
end

section
/-! SUPPORT. The ports reach no meaning: a step commutes with a change of SRC_PORT, and outside the Discovery dispatch with a
change of DST_PORT (rules R21 and R129). -/

namespace Sys2Proof.Machine

open Sys2Proof.Spec (mapNext)

/-- The state with SRC_PORT changed by `g` and DST_PORT by `h`. -/
def mapPorts (g h : Port → Port) (s : State) : State := { s with srcPort := g s.srcPort, dstPort := h s.dstPort }

/-- A run with its state changed by `f`. -/
def Run.map (f : State → State) : Run → Run
  | .go s => .go (f s)
  | .trap s => .trap (f s)

/-- A fetch with its state changed by `f`. -/
def Fetched.map (f : State → State) : Fetched → Fetched
  | .word m w s => .word m w (f s)
  | .trap s => .trap (f s)
  | .idle => .idle

section

variable (g h : Port → Port) (s : State)

/-! ### The registers and the shared operations -/

@[simp] theorem mapPorts_sampled : (mapPorts g h s).sampled = s.sampled := rfl
@[simp] theorem mapPorts_len : (mapPorts g h s).len = s.len := rfl
@[simp] theorem mapPorts_cur : (mapPorts g h s).cur = s.cur := rfl
@[simp] theorem mapPorts_p : (mapPorts g h s).p = s.p := rfl
@[simp] theorem mapPorts_slot : (mapPorts g h s).slot = s.slot := rfl
@[simp] theorem bytesAt_mapPorts (off n : Nat) : bytesAt (mapPorts g h s) off n = bytesAt s off n := rfl
@[simp] theorem padLength_mapPorts (nominal : Nat) : padLength (mapPorts g h s) nominal = padLength s nominal := rfl

theorem finish_mapPorts : finish (mapPorts g h s) = mapPorts g h (finish s) := by
  rw [finish_spec, finish_spec]
  rfl

theorem endSubframe_mapPorts (l : Literals) (d : Dir) :
    endSubframe l d (mapPorts g h s) = mapPorts g h (endSubframe l d s) := by
  cases hs : s.slot with
  | one => simp only [endSubframe_spec, mapPorts_slot, hs]; rfl
  | two =>
    simp only [endSubframe_spec, mapPorts_slot, hs]
    exact finish_mapPorts g h { s with cur := s.p + l.subframeLen, slot := .two }

theorem lateSync_mapPorts : lateSync (mapPorts g h s) = mapPorts g h (lateSync s) := by
  rw [lateSync_spec, lateSync_spec]
  rfl

theorem learnReceiverCount_mapPorts (guard : BitVec 3 → Bool) :
    learnReceiverCount guard (mapPorts g h s) = mapPorts g h (learnReceiverCount guard s) := by
  rw [learnReceiverCount_spec, learnReceiverCount_spec]
  rfl

/-! ### Runs -/

theorem need_mapPorts (off n : Nat) : need off n (mapPorts g h s) = (need off n s).map (mapPorts g h) := by
  unfold need
  rw [mapPorts_len]
  split <;> rfl

theorem emit_mapPorts (f : FieldSpec) : emit f (mapPorts g h s) = (emit f s).map (mapPorts g h) := by
  rw [emit_spec, emit_spec, mapPorts_len]
  split <;> rfl

theorem emitAll_mapPorts (fs : List FieldSpec) :
    emitAll fs (mapPorts g h s) = (emitAll fs s).map (mapPorts g h) := by
  rw [emitAll_spec, emitAll_spec, mapPorts_len]
  cases fs.find? (fun f => decide (s.len < f.off + f.n)) <;> rfl

theorem padRegion_mapPorts (off nominal : Nat) :
    padRegion off nominal (mapPorts g h s) = (padRegion off nominal s).map (mapPorts g h) := by
  rw [padRegion_spec, padRegion_spec, mapPorts_len, padLength_mapPorts]
  split <;> rfl

end

/-- A sequence commutes with a change of state if its second part does. -/
theorem Run.map_andThen {f : State → State} {k : State → Run} (r : Run) (hk : ∀ s, k (f s) = (k s).map f) :
    (r.map f).andThen k = (r.andThen k).map f := by
  cases r with
  | go s => exact hk s
  | trap s => rfl

/-- A sequence commutes with a change of state if the update it ends in does. -/
theorem Run.map_andThen_go {f k : State → State} (r : Run) (hk : ∀ s, k (f s) = f (k s)) :
    ((r.map f).andThen fun s => .go (k s)) = (r.andThen fun s => .go (k s)).map f :=
  r.map_andThen fun s => congrArg Run.go (hk s)

theorem Run.outcome_map (f : State → State) (r : Run) : (r.map f).outcome = mapNext f r.outcome := by cases r <;> rfl

theorem Run.read_map {f : State → State} (r : Run) (m : SelMap) {w : State → List Byte} (hw : ∀ s, w (f s) = w s) :
    (r.map f).read m w = (r.read m w).map f := by
  cases r with
  | go s => simp [Run.map, Run.read, Fetched.map, hw]
  | trap s => rfl

section

variable (g h : Port → Port) (s : State)

theorem header_mapPorts : header (mapPorts g h s) = (header s).map (mapPorts g h) := by
  unfold header
  rw [need_mapPorts, Run.map_andThen _ fun t => emitAll_mapPorts g h t _, Run.map_andThen _ fun _ => rfl]

/-! ### Instructions -/

/-- The meaning `f` does not see the ports. -/
def IgnoresPorts (f : State → Host.Outcome State Fault Refusal) : Prop :=
  ∀ s, f (mapPorts g h s) = mapNext (mapPorts g h) (f s)

theorem h2dRecord_ignoresPorts (c0m : Byte) (mox : Bool) (layout : Nat → List FieldSpec) {write : State → State}
    (hw : ∀ s, write (mapPorts g h s) = mapPorts g h (write s)) : IgnoresPorts g h (h2dRecord c0m mox layout write) := by
  intro s
  unfold h2dRecord h2dHead
  rw [mapPorts_p, emit_mapPorts, Run.map_andThen_go _ (lateSync_mapPorts g h), Run.map_andThen _ fun t => emitAll_mapPorts g h t _,
    Run.map_andThen _ fun t => need_mapPorts g h t _ _, Run.map_andThen _ fun t => emitAll_mapPorts g h t _,
    Run.map_andThen_go _ hw, Run.map_andThen _ fun _ => rfl, Run.outcome_map]

theorem d2hRecord_ignoresPorts (c0m : Byte) (dot dash ptt : Bool) (layout : Nat → List FieldSpec) :
    IgnoresPorts g h (d2hRecord c0m dot dash ptt layout) := by
  intro s
  unfold d2hRecord d2hHead
  rw [mapPorts_p, emitAll_mapPorts, Run.map_andThen _ fun t => need_mapPorts g h t _ _,
    Run.map_andThen _ fun t => emitAll_mapPorts g h t _, Run.map_andThen _ fun _ => rfl, Run.outcome_map]

theorem sampleBlock_ignoresPorts (l : Literals) (d : Dir) (layout : Nat → List FieldSpec) :
    IgnoresPorts g h (sampleBlock l d layout) := by
  intro s
  unfold sampleBlock
  rw [mapPorts_p, emitAll_mapPorts, Run.map_andThen_go _ fun t => endSubframe_mapPorts g h t l d,
    Run.outcome_map]

/-- A datagram whose fields, read by `r`, end in a pad region. -/
theorem pad_ignoresPorts {r : State → Run} (off nominal : Nat) (hr : ∀ s, r (mapPorts g h s) = (r s).map (mapPorts g h)) :
    IgnoresPorts g h fun s => (((r s).andThen (padRegion off nominal)).andThen fun t => .go (finish t)).outcome := by
  intro s
  dsimp only
  rw [hr, Run.map_andThen _ fun t => padRegion_mapPorts g h t _ _,
    Run.map_andThen_go _ (finish_mapPorts g h), Run.outcome_map]

theorem status_ignoresPorts {i : Instr} (hm : i.selMap = .status) : IgnoresPorts g h (exec i) := by
  have hfields : ∀ fs s, (header (mapPorts g h s)).andThen (emitAll fs) = ((header s).andThen (emitAll fs)).map (mapPorts g h) :=
    fun fs s => by rw [header_mapPorts, Run.map_andThen _ fun t => emitAll_mapPorts g h t _]
  cases i
  case stData =>
    intro s
    simp only [exec, execStData]
    rw [hfields, Run.map_andThen _ fun _ => rfl, Run.outcome_map]
  case stDiscovery =>
    intro s
    simp only [exec, execStDiscovery]
    rw [header_mapPorts, Run.map_andThen _ fun _ => rfl, Run.outcome_map]
  case stSetip => exact pad_ignoresPorts g h _ _ (hfields _)
  case stStartstop =>
    refine pad_ignoresPorts g h _ _ (r := fun s => ((header s).andThen _).andThen _) fun s => ?_
    rw [hfields, Run.map_andThen _ fun _ => rfl]
  case stUnknown =>
    intro s
    simp only [exec, execStUnknown]
    rw [header_mapPorts, Run.map_andThen _ fun _ => rfl, Run.outcome_map]
  all_goals cases hm

theorem endpoint_ignoresPorts {i : Instr} (hm : i.selMap = .endpoint) : IgnoresPorts g h (exec i) := by
  cases i
  case ep2H2d | ep6D2h | epUnknown => exact fun _ => rfl
  case ep4Raw =>
    intro s
    simp only [exec, execEp4Raw]
    rw [mapPorts_cur, emitAll_mapPorts,
      Run.map_andThen_go _ fun t => finish_mapPorts g h (goto (s.cur + 1024) t.phase t), Run.outcome_map]
  all_goals cases hm

theorem discovery_ignoresPorts {i : Instr} (hm : i.selMap = .discQuery ∨ i.selMap = .discReply) :
    IgnoresPorts g h (exec i) := by
  cases i
  case discQuery => exact pad_ignoresPorts g h _ _ fun s => emit_mapPorts g h s _
  case discReply => exact pad_ignoresPorts g h _ _ fun s => emitAll_mapPorts g h s _
  case discReplyHl =>
    refine pad_ignoresPorts g h _ _ (r := fun s => (emitAll _ s).andThen _) fun s => ?_
    rw [emitAll_mapPorts, Run.map_andThen _ fun t => emit_mapPorts g h t _]
  all_goals rcases hm with hm | hm <;> cases hm

/-- No instruction reads a port (rules R21 and R129). -/
theorem exec_ignoresPorts (i : Instr) : IgnoresPorts g h (exec i) := by
  cases hm : i.selMap with
  | status => exact status_ignoresPorts g h hm
  | endpoint => exact endpoint_ignoresPorts g h hm
  | discQuery => exact discovery_ignoresPorts g h (.inl hm)
  | discReply => exact discovery_ignoresPorts g h (.inr hm)
  | h2dControl =>
    obtain ⟨c0m, mox, layout, write, hi, hw⟩ := exec_of_h2dControl hm
    rw [funext hi]
    refine h2dRecord_ignoresPorts g h c0m mox layout fun s => ?_
    rcases hw with rfl | ⟨-, rfl⟩
    · rfl
    · exact learnReceiverCount_mapPorts g h s _
  | d2hControl =>
    obtain ⟨c0m, dot, dash, ptt, layout, hi⟩ := exec_of_d2hControl hm
    rw [funext hi]
    exact d2hRecord_ignoresPorts g h c0m dot dash ptt layout
  | h2dSamples =>
    obtain ⟨layout, hi, -⟩ := exec_of_h2dSamples hm
    rw [funext hi]
    exact sampleBlock_ignoresPorts g h _ _ layout
  | d2hSamples =>
    obtain ⟨layout, hi, -⟩ := exec_of_d2hSamples hm
    rw [funext hi]
    exact sampleBlock_ignoresPorts g h _ _ layout

/-! ### Fetch and step -/

theorem syncScan_mapPorts (marker : List Byte) (o fuel k : Nat) :
    syncScan marker (mapPorts g h s) o fuel k = syncScan marker s o fuel k := by
  induction fuel generalizing k with
  | zero => rfl
  | succ fuel ih => simp only [syncScan, mapPorts_len, bytesAt_mapPorts, ih]

theorem syncLocate_mapPorts (l : Literals) (o : Nat) :
    syncLocate l o (mapPorts g h s) = (syncLocate l o s).map (mapPorts g h) := by
  unfold syncLocate
  rw [mapPorts_sampled, syncScan_mapPorts, mapPorts_len, need_mapPorts]
  split
  · split <;> rfl
  · exact Run.map_andThen _ fun _ => rfl

/-- The selector byte of a control record, once its base is located. -/
theorem readC0_mapPorts {r : Run} (mask : Byte) (m : SelMap) :
    (((r.map (mapPorts g h)).andThen fun s => (need (s.p + 3) 1 s).andThen fun s => .go (setC0 mask s)).read m fun s => [s.c0])
      = ((r.andThen fun s => (need (s.p + 3) 1 s).andThen fun s => .go (setC0 mask s)).read m fun s => [s.c0]).map
          (mapPorts g h) := by
  have hc0 : ∀ t, ((need ((mapPorts g h t).p + 3) 1 (mapPorts g h t)).andThen fun s => .go (setC0 mask s))
      = ((need (t.p + 3) 1 t).andThen fun s => .go (setC0 mask s)).map (mapPorts g h) := fun t => by
    rw [mapPorts_p, need_mapPorts]
    exact Run.map_andThen_go _ fun _ => rfl
  rw [Run.map_andThen _ hc0]
  exact Run.read_map _ m fun _ => rfl

/-- A fetch reads DST_PORT in the Discovery dispatch only (rule R119). -/
theorem fetch_mapPorts (hdst : s.phase = .discovery → h s.dstPort = s.dstPort) :
    fetch (mapPorts g h s) = (fetch s).map (mapPorts g h) := by
  cases hph : s.phase with
  | idle => rw [fetch_idle hph, fetch_idle (s := mapPorts g h s) hph]; rfl
  | status =>
    rw [fetch_status hph, fetch_status (s := mapPorts g h s) hph, need_mapPorts]
    exact Run.read_map _ _ fun _ => rfl
  | endpoint =>
    rw [fetch_endpoint hph, fetch_endpoint (s := mapPorts g h s) hph, need_mapPorts]
    exact Run.read_map _ _ fun _ => rfl
  | discovery =>
    have hsame : (mapPorts g h s).dstPort = s.dstPort := hdst hph
    by_cases hport : s.dstPort = s.wellKnownPort
    · rw [fetch_discQuery hph hport, fetch_discQuery (s := mapPorts g h s) hph (hsame.trans hport)]
      rfl
    · rw [fetch_discReply hph hport, fetch_discReply (s := mapPorts g h s) hph (hsame ▸ hport), need_mapPorts,
        Run.map_andThen _ fun t => need_mapPorts g h t _ _, Run.map_andThen _ fun t => need_mapPorts g h t _ _]
      exact Run.read_map _ _ fun _ => rfl
  | h2dControl =>
    rw [fetch_h2dControl hph, fetch_h2dControl (s := mapPorts g h s) hph, mapPorts_cur, syncLocate_mapPorts]
    exact readC0_mapPorts g h _ _
  | d2hControl =>
    rw [fetch_d2hControl hph, fetch_d2hControl (s := mapPorts g h s) hph, mapPorts_cur, need_mapPorts,
      Run.map_andThen _ fun _ => rfl]
    exact readC0_mapPorts g h _ _
  | h2dSamples => rw [fetch_h2dSamples hph, fetch_h2dSamples (s := mapPorts g h s) hph]; rfl
  | d2hSamples => rw [fetch_d2hSamples hph, fetch_d2hSamples (s := mapPorts g h s) hph]; rfl

/-- A step of a DECODE in progress carries a change of the ports along. -/
theorem step_mapPorts (hbusy : s.phase ≠ .idle) (hdst : s.phase = .discovery → h s.dstPort = s.dstPort) :
    step (mapPorts g h s) = mapNext (mapPorts g h) (step s) := by
  have hf := fetch_fetches s
  rw [step_eq, step_eq, fetch_mapPorts g h s hdst]
  generalize fetch s = r at hf ⊢
  cases r with
  | idle =>
    cases hf with
    | idle hidle => exact absurd hidle hbusy
  | trap t => rfl
  | word m w t =>
    dsimp only [Fetched.map]
    cases decode m w with
    | ok i => exact exec_ignoresPorts g h i t
    | error e => rfl

end

end Sys2Proof.Machine
end

section
/-! SUPPORT. The start of a DECODE: the buffer holds the caller's bytes, and nothing else of the state before it is read. -/

namespace Sys2Proof.Machine

/-- A buffer holds nothing below the address it is loaded at. -/
theorem readByte_loadBytes_below (bs : List Byte) {lo a : Nat} (h : a < lo) : readByte (loadBytes lo bs) a = 0#8 := by
  induction bs generalizing lo with
  | nil => rfl
  | cons b bs ih =>
    have hrest : readByte (loadBytes (lo + 1) bs) a = 0#8 := ih (Nat.lt_succ_of_lt h)
    by_cases hb : b = 0#8
    · simpa [loadBytes, hb] using hrest
    · simpa [loadBytes, hb, readByte, Nat.ne_of_gt h] using hrest

/-- A buffer holds the bytes it was loaded with; the zero bytes are the ones it does not list (log 11). -/
theorem readByte_loadBytes (bs : List Byte) (lo k : Nat) (h : k < bs.length) :
    readByte (loadBytes lo bs) (lo + k) = bs[k] := by
  induction bs generalizing lo k with
  | nil => exact absurd h (Nat.not_lt_zero k)
  | cons b bs ih =>
    cases k with
    | zero =>
      by_cases hb : b = 0#8
      · simpa [loadBytes, hb] using readByte_loadBytes_below bs (Nat.lt_succ_self lo)
      · simp [loadBytes, hb, readByte]
    | succ k =>
      have hk : k < bs.length := Nat.lt_of_succ_lt_succ h
      have hrest : readByte (loadBytes (lo + 1) bs) (lo + (k + 1)) = bs[k] := by
        rw [show lo + (k + 1) = lo + 1 + k by omega]
        exact ih (lo + 1) k hk
      by_cases hb : b = 0#8
      · simpa [loadBytes, hb] using hrest
      · simpa [loadBytes, hb, readByte] using hrest

/-- The start of a DECODE reads RC, RF, the inputs, the pending transactions and the two fixed fields only (rules R36, R58). -/
theorem beginDecode_congr {s₁ s₂ : State} (bytes : List Byte) (src dst : Port) (hrc : s₁.rc = s₂.rc) (hrf : s₁.rf = s₂.rf)
    (hin : s₁.inputs = s₂.inputs) (hinit : s₁.initialised = s₂.initialised) (hport : s₁.wellKnownPort = s₂.wellKnownPort)
    (hpend : s₁.pending = s₂.pending) : beginDecode bytes src dst s₁ = beginDecode bytes src dst s₂ := by
  simp only [beginDecode, hrc, hrf, hin, hinit, hport, hpend]

/-- What an idle step does with a DECODE pending. -/
theorem step_of_pending_decode {s : State} {bytes : List Byte} {src dst : Port} {rest : List Request} (hidle : s.phase = .idle)
    (hp : s.pending = .decode bytes src dst :: rest) :
    step s =
      if s.initialised = false then .refused .decodeBeforeReset
      else if 65535 < bytes.length then .refused .datagramTooLong
      else .next (beginDecode bytes src dst { s with pending := rest }) := by
  rw [step_eq, fetch_idle hidle]
  dsimp only
  rw [nextRequest, hp]
  exact startWith_decode _ src dst hidle

end Sys2Proof.Machine
end

section
/-! THEOREMS. The obligations about the ports, the reset state and the start of a transaction. -/

namespace Sys2Proof.Proofs

open Sys2Proof Sys2Proof.Machine Sys2Proof.Spec

/-- Settles O54: a change of SRC_PORT, and outside the Discovery dispatch one of DST_PORT, commutes with the step. -/
theorem portsDoNotReachOtherRules : Obligations.PortsDoNotReachOtherRules := fun s x =>
  ⟨fun hbusy => step_mapPorts (fun _ => x) id s hbusy fun _ => rfl,
    fun hbusy hdisc => step_mapPorts id (fun _ => x) s hbusy fun h => absurd h hdisc⟩

/-- Settles O56: the step is `beginDecode`, whose buffer holds the caller's bytes (`readByte_loadBytes`). -/
theorem decodeStartSamplesItsInputs : Obligations.DecodeStartSamplesItsInputs := by
  intro s bytes src dst rest hidle hinit hp hlen
  refine ⟨beginDecode bytes src dst { s with pending := rest }, ?_, rfl, rfl, rfl, rfl, rfl, rfl, rfl, rfl, rfl, rfl, rfl, rfl,
    fun a ha => ?_⟩
  · rw [step_of_pending_decode hidle hp, if_neg (by simp [hinit]), if_neg (Nat.not_lt.mpr hlen)]
  · simpa [byteAt] using readByte_loadBytes bytes 0 a ha

/-- Settles O59: whether the DECODE starts is decided by the phase, the flag of RESET and the length, and what it starts with
by `beginDecode_congr`. -/
theorem onlyRcAndRfCarryOver : Obligations.OnlyRcAndRfCarryOver := by
  intro s₁ s₂ bytes src dst rest hidle₁ hidle₂ hrc hrf hin hinit hport hp₁ hp₂
  have hbegin : beginDecode bytes src dst { s₁ with pending := rest } = beginDecode bytes src dst { s₂ with pending := rest } :=
    beginDecode_congr bytes src dst hrc hrf hin hinit hport rfl
  rw [step_of_pending_decode hidle₁ hp₁, step_of_pending_decode hidle₂ hp₂, hbegin, hinit]

/-- Settles O44: each value stands in the definition of the reset state. -/
theorem resetStateHoldsTheStatedValues : Obligations.ResetStateHoldsTheStatedValues := ⟨rfl, rfl, rfl, rfl, rfl⟩

/-- Settles O45: the reset state is idle with an empty buffer and an empty OUT. -/
theorem resetStateMeetsTheInvariant : Obligations.ResetStateMeetsTheInvariant :=
  ⟨inv_of_placeHolds reset_memory_wf rfl (Nat.zero_le _) (Nat.zero_le _) rfl (Nat.le_refl _) (fun h => absurd rfl h)
    (fun _ _ => rfl) trivial, fun _ hit => nomatch hit⟩

/-- Settles O58, one refusal of `start` after the other. -/
theorem transactionsOutsideTheModelAreRefused : Obligations.TransactionsOutsideTheModelAreRefused := by
  intro s bytes src dst
  refine ⟨fun r hbusy => ?_, fun hidle hinit => ?_, fun hidle hinit hlen => ?_⟩
  · rw [start, startWith_busy _ r hbusy]
  · rw [start, startWith_decode _ src dst hidle, if_pos hinit]
  · rw [start, startWith_decode _ src dst hidle, if_neg (by simp [hinit]), literals_maxLen, if_pos hlen]

end Sys2Proof.Proofs
end

section
/-! SUPPORT. What the shared operations do, in the vocabulary of the statements: the state at the end of a DECODE and after a
sample block; the payload check of a control record; the signed fields and the Device→Host sample layouts; and what a step of
one session writes. -/

namespace Sys2Proof.Machine

open Sys2Proof.Spec

/-! ### OUT and the end of a DECODE -/

/-- The end of a DECODE is the statements' completed state (rules R127 and R128). -/
theorem finish_eq_completed (s : State) (cur : Nat) (items : List Item) :
    finish { s with cur := cur, out := s.out ++ items } = completed s cur items := by
  simp [finish_spec, completed]

/-- The end of a DECODE only appends to OUT (rules R32 and R127). -/
theorem finish_out_append {out : List Item} {s : State} (h : ∃ items, s.out = out ++ items) :
    ∃ items, (finish s).out = out ++ items := by
  obtain ⟨items, hout⟩ := h
  rw [finish_spec, hout, List.append_assoc]
  exact ⟨_, rfl⟩

/-- An instruction appends to OUT, or ends in the fatal state of the one it was run in (rules R51, R334, R335). -/
theorem Ends.out_append_or_fatal {i : Instr} {s t : State} (h : Ends i s t) :
    (∃ e, t = Spec.fatal { s with rc := t.rc, rf := t.rf } e) ∨ ∃ items, t.out = s.out ++ items := by
  cases h with
  | fatal e => exact .inl ⟨e, rfl⟩
  | toEndpoint | toDiscovery | toSamples => exact .inr ⟨_, rfl⟩
  | toSubframe => exact .inr ⟨[], (List.append_nil _).symm⟩
  | subframeEnd =>
    rw [endSubframe_spec]
    split
    · exact .inr ⟨_, rfl⟩
    · exact .inr (finish_out_append ⟨_, rfl⟩)
  | complete => exact .inr (finish_out_append ⟨_, rfl⟩)

/-! ### The payload of a control record -/

/-- A Host→Device head whose sync and C0 are in the datagram and whose payload is not (rules R54 and R151). -/
theorem h2dHead_short_payload {s : State} (c0m : Byte) (mox : Bool) (hC0 : s.p + 4 ≤ s.len) (hpay : s.len < s.p + 8) :
    h2dHead c0m mox s = .trap (fatal s (.truncated (s.p + 4) 4)) := by
  have hsync : ¬ s.len < s.p + 3 := by omega
  unfold h2dHead
  rw [emit_spec, if_neg hsync, Run.andThen_go, Run.andThen_go, lateSync_spec, emitAll_fits (by simp; omega), Run.andThen_go,
    need_short (by exact hpay)]
  rfl

/-- The same for a Device→Host head (rules R54 and R155). -/
theorem d2hHead_short_payload {s : State} (c0m : Byte) (dot dash ptt : Bool) (hC0 : s.p + 4 ≤ s.len)
    (hpay : s.len < s.p + 8) : d2hHead c0m dot dash ptt s = .trap (fatal s (.truncated (s.p + 4) 4)) := by
  unfold d2hHead
  rw [emitAll_fits (by simp; omega), Run.andThen_go, need_short (by exact hpay)]
  rfl

/-! ### Sample blocks -/

/-- The end of a sub-frame is the statements' state after a block (rules R157 and R158). -/
theorem endSubframe_eq_afterBlock (d : Dir) (s : State) (items : List Item) :
    endSubframe Config.literals d { s with out := s.out ++ items } = afterBlock s d items := by
  rw [endSubframe_spec]
  split
  · next hslot =>
    have hone : s.slot = .one := hslot
    rw [afterBlock, if_pos hone]
    cases d <;> rfl
  · next hslot =>
    have htwo : s.slot = .two := hslot
    rw [afterBlock, if_neg (by simp [htwo])]
    exact finish_eq_completed s (s.p + 512) items

/-- A sample block whose fields lie in the datagram. -/
theorem sampleBlock_eq_afterBlock {s : State} (d : Dir) (layout : Nat → List FieldSpec)
    (h : ∀ f ∈ layout (s.p + 8), f.off + f.n ≤ s.len) :
    sampleBlock Config.literals d layout s = .next (afterBlock s d ((layout (s.p + 8)).map (fieldItem s))) := by
  rw [sampleBlock_fits _ _ _ h, endSubframe_eq_afterBlock]

/-- A sample block that passes L is Truncated at its first field that does (rule R54). -/
theorem sampleBlock_eq_fatal {s : State} (l : Literals) (d : Dir) (layout : Nat → List FieldSpec) {f : FieldSpec}
    (h : firstPast s.len (layout (s.p + 8)) = some f) :
    sampleBlock l d layout s = .next (fatal s (.truncated f.off f.n)) := by
  unfold firstPast at h
  rw [sampleBlock, emitAll_spec, h]
  rfl

/-- A layout with a field that passes `len` has a first one. -/
theorem exists_firstPast {len : Nat} {fs : List FieldSpec} (h : ∃ f ∈ fs, len < f.off + f.n) :
    ∃ f, firstPast len fs = some f := by
  obtain ⟨f, hf, hlt⟩ := h
  exact Option.isSome_iff_exists.mp (List.find?_isSome.mpr ⟨f, hf, decide_eq_true hlt⟩)

/-- RC selects the instruction of a Device→Host sample block (rules R93 and R302). -/
theorem step_of_d2hSamples {s : State} (h : s.phase = .d2hSamples) : step s = exec (decodeLayout s.rc.toNat) s := by
  have hrc : leNat [s.rc.setWidth 8] = s.rc.toNat := by
    simpa [leNat] using Nat.mod_eq_of_lt (Nat.lt_trans s.rc.isLt (by decide : 2 ^ 4 < 2 ^ 8))
  rw [step_eq, fetch_d2hSamples h]
  simp only [decode, hrc]

/-- Every receiver count from 2 up selects SB_D2H_MULTI (rule R302). -/
theorem decodeLayout_of_two_le {n : Nat} (h : 2 ≤ n) : decodeLayout n = .sbD2hMulti n := by
  match n, h with
  | _ + 2, _ => rfl

/-! ### Signed fields -/

/-- A 2-byte big-endian value, read as two's complement (rule R89). -/
theorem sext_beNat_two (a b : Byte) : sext 16 (beNat [a, b]) = (a ++ b : BitVec 16).toInt := by
  refine congrArg BitVec.toInt (BitVec.eq_of_toNat_eq ?_)
  have ha : a.toNat < 2 ^ 8 := a.isLt
  have hb : b.toNat < 2 ^ 8 := b.isLt
  rw [BitVec.toNat_append, ← Nat.shiftLeft_add_eq_or_of_lt hb, Nat.shiftLeft_eq, BitVec.toNat_ofNat]
  simp only [beNat, List.length_cons, List.length_nil]
  omega

/-- A 3-byte big-endian value, read as two's complement (rule R89). -/
theorem sext_beNat_three (a b c : Byte) : sext 24 (beNat [a, b, c]) = (a ++ b ++ c : BitVec 24).toInt := by
  refine congrArg BitVec.toInt (BitVec.eq_of_toNat_eq ?_)
  have ha : a.toNat < 2 ^ 8 := a.isLt
  have hb : b.toNat < 2 ^ 8 := b.isLt
  have hc : c.toNat < 2 ^ 8 := c.isLt
  rw [BitVec.toNat_append, ← Nat.shiftLeft_add_eq_or_of_lt hc, BitVec.toNat_append, ← Nat.shiftLeft_add_eq_or_of_lt hb,
    Nat.shiftLeft_eq, Nat.shiftLeft_eq, BitVec.toNat_ofNat]
  simp only [beNat, List.length_cons, List.length_nil]
  omega

/-- A signed 2-byte field (rule R89). -/
theorem fieldItem_sint_two (s : State) (a : Nat) (name : FieldName) :
    fieldItem s ⟨a, 2, name, .sint⟩ = fieldAt s a 2 name (.sint (s16 s a)) :=
  congrArg (fun v => fieldAt s a 2 name (.sint v)) (sext_beNat_two _ _)

/-- A signed 3-byte field (rule R89). -/
theorem fieldItem_sint_three (s : State) (a : Nat) (name : FieldName) :
    fieldItem s ⟨a, 3, name, .sint⟩ = fieldAt s a 3 name (.sint (s24 s a)) :=
  congrArg (fun v => fieldAt s a 3 name (.sint v)) (sext_beNat_three _ _ _)

/-! ### The Device→Host sample layouts -/

/-- The fields of one tuple lie within its stride (rule R305). -/
theorem d2hTuple_fits {n a t : Nat} {f : FieldSpec} (hf : f ∈ d2hTuple n a t) : f.off + f.n ≤ a + (6 * n + 2) := by
  rw [d2hTuple, List.mem_append, List.mem_flatMap] at hf
  rcases hf with ⟨r, hr, hf⟩ | hf
  · have hlt : r < n := List.mem_range.mp hr
    rcases List.mem_pair.mp hf with rfl | rfl <;> dsimp only <;> omega
  · rw [List.mem_singleton.mp hf]
    dsimp only
    omega

/-- Every Device→Host layout lies within the 504 bytes of its block (rules R304 to R307). -/
theorem d2hBlock_fits {n b : Nat} {f : FieldSpec} (hf : f ∈ d2hBlock n b) : f.off + f.n ≤ b + 504 := by
  have hdiv : 504 / (6 * n + 2) * (6 * n + 2) + 504 % (6 * n + 2) = 504 := Nat.div_add_mod' 504 (6 * n + 2)
  rw [d2hBlock, d2hBlockWith, literals_sampleBlockLen, List.mem_append, List.mem_flatMap] at hf
  rcases hf with ⟨t, ht, hf⟩ | hf
  · have hstride : (t + 1) * (6 * n + 2) ≤ 504 / (6 * n + 2) * (6 * n + 2) := Nat.mul_le_mul_right _ (List.mem_range.mp ht)
    have hend := d2hTuple_fits hf
    rw [Nat.succ_mul] at hstride
    omega
  · rw [d2hPad] at hf
    split at hf
    · rw [List.mem_singleton.mp hf]
      dsimp only
      omega
    · cases hf

/-- The fields of one tuple: the I and Q pairs of the receivers, then the microphone sample (rule R305). -/
theorem d2hTuple_map_fieldItem (s : State) (n a t : Nat) :
    (d2hTuple n a t).map (fieldItem s) =
      ((List.range n).flatMap fun r =>
        [fieldAt s (a + 6 * r) 3 (.rx_i (r + 1) t) (.sint (s24 s (a + 6 * r))),
          fieldAt s (a + 6 * r + 3) 3 (.rx_q (r + 1) t) (.sint (s24 s (a + 6 * r + 3)))])
        ++ [fieldAt s (a + 6 * n) 2 (.mic t) (.sint (s16 s (a + 6 * n)))] := by
  simp only [d2hTuple, List.map_append, List.map_flatMap, List.map_cons, List.map_nil, fieldItem_sint_two,
    fieldItem_sint_three]

/-- The pad field, where the block has one (rule R305). -/
theorem d2hPad_map_fieldItem (s : State) (n b : Nat) :
    (d2hPad 504 n b).map (fieldItem s) =
      if 0 < 504 % (6 * n + 2) then [bytesFieldAt s (b + 504 / (6 * n + 2) * (6 * n + 2)) (504 % (6 * n + 2)) .pad] else [] := by
  rw [d2hPad]
  split <;> rfl

/-- The fields of a Device→Host sample block, for every receiver count (rules R304, R305, R307). -/
theorem d2hBlock_map_fieldItem (s : State) (n b : Nat) : (d2hBlock n b).map (fieldItem s) = d2hSampleItems s n b := by
  simp only [d2hBlock, d2hBlockWith, literals_sampleBlockLen, d2hSampleItems, List.map_append, List.map_flatMap,
    d2hTuple_map_fieldItem, d2hPad_map_fieldItem]

/-- A Device→Host sample block of `n` receivers that lies in the datagram. -/
theorem sampleBlock_d2h_fits {s : State} (n : Nat) (h : s.p + 512 ≤ s.len) :
    sampleBlock Config.literals .d2h (d2hBlock n) s = .next (afterBlock s .d2h (d2hSampleItems s n (s.p + 8))) := by
  have hfit : ∀ f ∈ d2hBlock n (s.p + 8), f.off + f.n ≤ s.len := fun f hf => Nat.le_trans (d2hBlock_fits hf) h
  rw [sampleBlock_eq_afterBlock _ _ hfit, d2hBlock_map_fieldItem]

/-- A Device→Host sample block of `n` receivers that passes L. -/
theorem sampleBlock_d2h_short {s : State} (n : Nat) (h : s.len < s.p + 512) :
    ∃ f, firstPast s.len (d2hBlock n (s.p + 8)) = some f ∧
      sampleBlock Config.literals .d2h (d2hBlock n) s = .next (fatal s (.truncated f.off f.n)) := by
  obtain ⟨g, hg, hend⟩ := d2hBlock_reaches_end n (s.p + 8)
  obtain ⟨f, hf⟩ := exists_firstPast (len := s.len) ⟨g, hg, Nat.lt_of_lt_of_le h hend⟩
  exact ⟨f, hf, sampleBlock_eq_fatal _ _ _ hf⟩

theorem exec_sbD2hOne (s : State) : exec .sbD2hOne s = sampleBlock Config.literals .d2h (d2hBlock 1) s := rfl

theorem exec_sbD2hMulti (n : Nat) (s : State) :
    exec (.sbD2hMulti n) s = sampleBlock Config.literals .d2h (d2hBlock n) s := rfl

/-! ### Sessions -/

/-- A step of session `k` changes nothing, or writes the next state of session `k` at `k` (rule R352). -/
theorem sessionStep_cases {k : Nat} {ss ss' : Sessions} (h : sessionStep k ss = .next ss') :
    ss' = ss ∨ ∃ s t, ss[k]? = some s ∧ step s = .next t ∧ ss' = ss.set k t := by
  unfold sessionStep at h
  split at h
  · cases h
    exact .inl rfl
  · next s hs =>
    split at h
    · next t ht =>
      cases h
      exact .inr ⟨s, t, hs, ht, rfl⟩
    · cases h
    · cases h

end Sys2Proof.Machine
end

section
/-! THEOREMS. The obligations about the Device→Host sample tuples, the payload check, OUT and the sessions. -/

namespace Sys2Proof.Proofs

open Sys2Proof Sys2Proof.Machine Sys2Proof.Spec

/-- Settles O28: ONE is the layout of one receiver and MULTI that of `n`; the layout's fields, its extent and the field that
passes L are lemmas about every receiver count. -/
theorem sbD2hTuplesEmitIqPairsThenMicThenPad : Obligations.SbD2hTuplesEmitIqPairsThenMicThenPad := by
  intro s
  refine ⟨fun hfit => ⟨?_, fun n _ => ?_⟩, fun hphase => ⟨fun hrc => ?_, fun hrc => ?_⟩,
    fun n _ => d2hBlock_map_fieldItem s n (s.p + 8), fun hshort => ⟨?_, fun n _ => ?_⟩⟩
  · rw [exec_sbD2hOne, sampleBlock_d2h_fits 1 hfit]
  · rw [exec_sbD2hMulti, sampleBlock_d2h_fits n hfit]
  · rw [step_of_d2hSamples hphase, hrc]
    rfl
  · rw [step_of_d2hSamples hphase, decodeLayout_of_two_le hrc]
  · rw [exec_sbD2hOne]
    exact sampleBlock_d2h_short 1 hshort
  · rw [exec_sbD2hMulti]
    exact sampleBlock_d2h_short n hshort

/-- Settles O20: every record of a direction begins with that direction's head, and the head checks the payload. -/
theorem controlPayloadIsCheckedAsAWhole : Obligations.ControlPayloadIsCheckedAsAWhole := by
  intro i s hm hC0 hpay
  rcases hm with hm | hm
  · obtain ⟨c0m, mox, layout, write, hi, -⟩ := exec_of_h2dControl hm
    rw [hi, h2dRecord, h2dHead_short_payload c0m mox hC0 hpay]
    rfl
  · obtain ⟨c0m, dot, dash, ptt, layout, hi⟩ := exec_of_d2hControl hm
    rw [hi, d2hRecord, d2hHead_short_payload c0m dot dash ptt hC0 hpay]
    rfl

/-- Settles O51, from the ways an instruction can end (`exec_ends`). -/
theorem outIsAppendOnlyOrDiscarded : Obligations.OutIsAppendOnlyOrDiscarded :=
  fun _ _ _ h => (exec_ends h).out_append_or_fatal

/-- Settles O60: a step of session `k` writes the list at `k` only. -/
theorem sessionsDoNotInteract : Obligations.SessionsDoNotInteract := by
  intro k j ss ss' h hjk
  obtain rfl | ⟨s, t, -, -, rfl⟩ := sessionStep_cases h
  · rfl
  · exact List.getElem?_set_ne (Ne.symm hjk)

end Sys2Proof.Proofs
end

section
/-! SUPPORT. The decoder and the encoder, map by map: every selector byte is read whole, the rows that a map lists are the
ones its decoder answers, and a receiver count is carried by its bytes (rules R71, R73, R77, R78, R80, R91 to R93). -/

namespace Sys2Proof

/-! ### C0 and its parts (rules R77 and R78): a byte has few values, so these are checked on each -/

theorem c0H2d_parts (c0 : Byte) : c0H2d (c0.extractLsb' 1 7) (c0.getLsbD 0) = c0 := by
  revert c0
  decide

theorem sel_c0H2d (sel : BitVec 7) (mox : Bool) : (c0H2d sel mox).extractLsb' 1 7 = sel := by
  revert sel mox
  decide

theorem mox_c0H2d (sel : BitVec 7) (mox : Bool) : (c0H2d sel mox).getLsbD 0 = mox := by
  revert sel mox
  decide

theorem c0D2h_parts (c0 : Byte) : c0D2h (c0.extractLsb' 3 5) (c0.getLsbD 2) (c0.getLsbD 1) (c0.getLsbD 0) = c0 := by
  revert c0
  decide

theorem sel_c0D2h (sel : BitVec 5) (dot dash ptt : Bool) : (c0D2h sel dot dash ptt).extractLsb' 3 5 = sel := by
  revert sel dot dash ptt
  decide

theorem flags_c0D2h (sel : BitVec 5) (dot dash ptt : Bool) :
    (c0D2h sel dot dash ptt).getLsbD 2 = dot ∧ (c0D2h sel dot dash ptt).getLsbD 1 = dash ∧
      (c0D2h sel dot dash ptt).getLsbD 0 = ptt := by
  revert sel dot dash ptt
  decide

/-- A C0M of the Host→Device map with MOX is the C0 of its upper seven bits. -/
theorem c0m_or_mox (c0m : Byte) (mox : Bool) (h : c0m &&& 0xFE#8 = c0m) :
    c0m ||| (if mox then 1#8 else 0#8) = c0H2d (BitVec.ofNat 7 (c0m.toNat / 2)) mox := by
  revert c0m mox
  decide

/-- A C0M of the Device→Host map with DOT, DASH and PTT is the C0 of its upper five bits. -/
theorem c0m_or_flags (c0m : Byte) (dot dash ptt : Bool) (h : c0m &&& 0xF8#8 = c0m) :
    c0m ||| (if dot then 4#8 else 0#8) ||| (if dash then 2#8 else 0#8) ||| (if ptt then 1#8 else 0#8)
      = c0D2h (BitVec.ofNat 5 (c0m.toNat / 8)) dot dash ptt := by
  revert c0m dot dash ptt
  decide

/-- A C0M of the Host→Device map is even, its bit 0 being MOX. -/
theorem two_dvd_c0m (c0m : Byte) (h : c0m &&& 0xFE#8 = c0m) : 2 ∣ c0m.toNat := by
  revert c0m
  decide

/-- A C0M of the Device→Host map is a multiple of 8, its bits 2..0 being the flags. -/
theorem eight_dvd_c0m (c0m : Byte) (h : c0m &&& 0xF8#8 = c0m) : 8 ∣ c0m.toNat := by
  revert c0m
  decide

/-! ### The status, endpoint and board bytes -/

/-- Rule R71, by the value of the byte. -/
theorem decodeStatus_eq (b : Byte) :
    decodeStatus b = if b = 0x01#8 then .stData else if b = 0x02#8 then .stDiscovery else if b = 0x03#8 then .stSetip
      else if b = 0x04#8 then .stStartstop else .stUnknown b := by
  split_ifs with h1 h2 h3 h4
  · rw [h1]; rfl
  · rw [h2]; rfl
  · rw [h3]; rfl
  · rw [h4]; rfl
  · simp only [← BitVec.toNat_inj] at h1 h2 h3 h4
    unfold decodeStatus
    split
    next h => exact absurd h h1
    next h => exact absurd h h2
    next h => exact absurd h h3
    next h => exact absurd h h4
    next => rfl

/-- Rule R73, by the value of the byte. -/
theorem decodeEndpoint_eq (b : Byte) :
    decodeEndpoint b =
      if b = 0x02#8 then .ep2H2d else if b = 0x04#8 then .ep4Raw else if b = 0x06#8 then .ep6D2h else .epUnknown b := by
  split_ifs with h2 h4 h6
  · rw [h2]; rfl
  · rw [h4]; rfl
  · rw [h6]; rfl
  · simp only [← BitVec.toNat_inj] at h2 h4 h6
    unfold decodeEndpoint
    split
    next h => exact absurd h h2
    next h => exact absurd h h4
    next h => exact absurd h h6
    next => rfl

/-- Rules R80 and R98, by the value of the byte. -/
theorem decodeBoard_eq (b : Byte) : decodeBoard b = if b = 0x06#8 then .discReplyHl else .discReply b := by
  split_ifs with h6
  · rw [h6]; rfl
  · rw [← BitVec.toNat_inj] at h6
    unfold decodeBoard
    split
    next h => exact absurd h h6
    next => rfl

theorem decodeStatus_wf (b : Byte) : (decodeStatus b).wf = true := by
  rw [decodeStatus_eq]
  split_ifs with h1 h2 h3 h4
  on_goal 5 => simp [Instr.wf, h1, h2, h3, h4]
  all_goals rfl

theorem decodeEndpoint_wf (b : Byte) : (decodeEndpoint b).wf = true := by
  rw [decodeEndpoint_eq]
  split_ifs with h2 h4 h6
  on_goal 4 => simp [Instr.wf, h2, h4, h6]
  all_goals rfl

theorem decodeBoard_wf (b : Byte) : (decodeBoard b).wf = true := by
  rw [decodeBoard_eq]
  split_ifs with h6
  · rfl
  · simp [Instr.wf, h6]

theorem encode_decodeStatus (b : Byte) : encode (decodeStatus b) = [b] := by
  rw [decodeStatus_eq]
  split_ifs with h1 h2 h3 h4
  · rw [h1]; rfl
  · rw [h2]; rfl
  · rw [h3]; rfl
  · rw [h4]; rfl
  · rfl

theorem encode_decodeEndpoint (b : Byte) : encode (decodeEndpoint b) = [b] := by
  rw [decodeEndpoint_eq]
  split_ifs with h2 h4 h6
  · rw [h2]; rfl
  · rw [h4]; rfl
  · rw [h6]; rfl
  · rfl

theorem encode_decodeBoard (b : Byte) : encode (decodeBoard b) = [b] := by
  rw [decodeBoard_eq]
  split_ifs with h6
  · rw [h6]; rfl
  · rfl

/-! ### The control records -/

theorem decodeH2d_wf (c0 : Byte) : (decodeH2d c0).wf = true := by
  unfold decodeH2d
  dsimp only
  split
  on_goal 19 => simp only [Instr.wf, decide_eq_true_eq, imp_false] at *; omega
  all_goals rfl

theorem decodeD2h_wf (c0 : Byte) : (decodeD2h c0).wf = true := by
  unfold decodeD2h
  dsimp only
  split
  on_goal 6 => simp only [Instr.wf, decide_eq_true_eq, imp_false] at *; omega
  all_goals rfl

/-- A listed selector of a Host→Device record, with the record's MOX, is its C0. -/
theorem c0H2d_of_sel {c0 : Byte} {k : BitVec 7} (h : (c0.extractLsb' 1 7).toNat = k.toNat) :
    [c0H2d k (c0.getLsbD 0)] = [c0] := by
  rw [← BitVec.eq_of_toNat_eq h, c0H2d_parts]

/-- A listed selector of a Device→Host record, with the record's flags, is its C0. -/
theorem c0D2h_of_sel {c0 : Byte} {k : BitVec 5} (h : (c0.extractLsb' 3 5).toNat = k.toNat) :
    [c0D2h k (c0.getLsbD 2) (c0.getLsbD 1) (c0.getLsbD 0)] = [c0] := by
  rw [← BitVec.eq_of_toNat_eq h, c0D2h_parts]

theorem encode_decodeH2d (c0 : Byte) : encode (decodeH2d c0) = [c0] := by
  unfold decodeH2d
  dsimp only
  split
  on_goal 19 => exact c0H2d_of_sel rfl
  all_goals next h => exact c0H2d_of_sel h

theorem encode_decodeD2h (c0 : Byte) : encode (decodeD2h c0) = [c0] := by
  unfold decodeD2h
  dsimp only
  split
  on_goal 6 => exact c0D2h_of_sel rfl
  all_goals next h => exact c0D2h_of_sel h

/-- A selector that the Host→Device map does not list (rule R200). -/
theorem decodeH2d_unknown {sel : BitVec 7} (h : 18 ≤ sel.toNat) (mox : Bool) :
    decodeH2d (c0H2d sel mox) = .h2dUnknown sel mox := by
  unfold decodeH2d
  rw [sel_c0H2d, mox_c0H2d]
  dsimp only
  split
  on_goal 19 => rfl
  all_goals omega

/-- A selector that the Device→Host map does not list (rule R246). -/
theorem decodeD2h_unknown {sel : BitVec 5} (h : 5 ≤ sel.toNat) (dot dash ptt : Bool) :
    decodeD2h (c0D2h sel dot dash ptt) = .d2hUnknown sel dot dash ptt := by
  obtain ⟨hdot, hdash, hptt⟩ := flags_c0D2h sel dot dash ptt
  unfold decodeD2h
  rw [sel_c0D2h, hdot, hdash, hptt]
  dsimp only
  split
  on_goal 6 => rfl
  all_goals omega

/-! ### The receiver count -/

theorem decodeLayout_wf (n : Nat) : (decodeLayout n).wf = true := by
  match n with
  | 0 | 1 => rfl
  | n + 2 => simp [decodeLayout, Instr.wf]

/-- A natural is read back from its bytes, where there is fuel for all of them. -/
theorem leNat_leBytes {fuel n : Nat} (h : n ≤ fuel) : leNat (leBytes fuel n) = n := by
  induction fuel generalizing n with
  | zero => exact (Nat.le_zero.mp h).symm
  | succ fuel ih =>
    by_cases hn : n = 0
    · simp [leBytes, leNat, hn]
    · have hrest : leNat (leBytes fuel (n / 256)) = n / 256 := ih (by omega)
      simp only [leBytes, hn, if_false, leNat, hrest, BitVec.toNat_ofNat]
      omega

/-- The first byte of a natural (rule R302, log 21). -/
theorem ofNat_leNat_cons (b : Byte) (bs : List Byte) : BitVec.ofNat 8 (leNat (b :: bs)) = b := by
  have hb : b.toNat < 256 := b.isLt
  refine BitVec.eq_of_toNat_eq ?_
  rw [leNat, BitVec.toNat_ofNat]
  omega

/-- The natural without its first byte. -/
theorem leNat_cons_div (b : Byte) (bs : List Byte) : leNat (b :: bs) / 256 = leNat bs := by
  have hb : b.toNat < 256 := b.isLt
  rw [leNat]
  omega

theorem leNat_le_leNat_cons (b : Byte) (bs : List Byte) : leNat bs ≤ leNat (b :: bs) := by
  rw [leNat]
  omega

theorem leBytes_zero (fuel : Nat) : leBytes fuel 0 = [] := by cases fuel <;> rfl

/-- The bytes of a natural begin every word that stands for it: what follows them is zero bytes. -/
theorem exists_append_leBytes (w : List Byte) {fuel : Nat} (h : leNat w ≤ fuel) :
    ∃ rest, w = leBytes fuel (leNat w) ++ rest := by
  induction w generalizing fuel with
  | nil => exact ⟨[], by rw [leNat, leBytes_zero]; rfl⟩
  | cons b bs ih =>
    by_cases h0 : leNat (b :: bs) = 0
    · exact ⟨b :: bs, by rw [h0, leBytes_zero]; rfl⟩
    · obtain ⟨fuel, rfl⟩ : ∃ k, fuel = k + 1 := Nat.exists_eq_succ_of_ne_zero (by omega)
      have hle : leNat bs ≤ fuel := by rw [leNat] at h h0; omega
      obtain ⟨rest, hrest⟩ := ih hle
      exact ⟨rest, by rw [leBytes, if_neg h0, ofNat_leNat_cons, leNat_cons_div, List.cons_append, ← hrest]⟩

/-- The word of the layout for a receiver count: the count's first byte, and the bytes of what is left. -/
theorem encode_decodeLayout (n : Nat) : encode (decodeLayout n) = BitVec.ofNat 8 n :: leBytes n (n / 256) := by
  match n with
  | 0 | 1 | _ + 2 => rfl

theorem leNat_encode_decodeLayout (n : Nat) : leNat (encode (decodeLayout n)) = n := by
  rw [encode_decodeLayout, leNat, leNat_leBytes (Nat.div_le_self n 256), BitVec.toNat_ofNat]
  omega

/-- A receiver count is read from the whole word, up to zero bytes behind it. -/
theorem exists_append_encode_decodeLayout (b : Byte) (bs : List Byte) :
    ∃ rest, b :: bs = encode (decodeLayout (leNat (b :: bs))) ++ rest := by
  obtain ⟨rest, hrest⟩ := exists_append_leBytes bs (leNat_le_leNat_cons b bs)
  exact ⟨rest, by rw [encode_decodeLayout, ofNat_leNat_cons, leNat_cons_div, List.cons_append, ← hrest]⟩

/-- RC as a word is its value (rule R308). -/
theorem leNat_rc (rc : BitVec 4) : leNat [rc.setWidth 8] = rc.toNat := by
  simp only [leNat, BitVec.toNat_setWidth]
  omega

/-! ### Decode and encode -/

/-- The encoding of a well-formed instruction decodes to it in its map: a listed row has its fixed selector, an unlisted one is
listed by no row of its map. -/
theorem decode_encode {i : Instr} (hwf : i.wf = true) : decode i.selMap (encode i) = .ok i := by
  cases i
  case stData | stDiscovery | stSetip | stStartstop | ep2H2d | ep4Raw | ep6D2h | discQuery | discReplyHl | sbH2d | sbD2hBlob
    | sbD2hOne => rfl
  case stUnknown b =>
    simp only [Instr.wf, Bool.and_eq_true, bne_iff_ne] at hwf
    obtain ⟨⟨⟨h1, h2⟩, h3⟩, h4⟩ := hwf
    simp [Instr.selMap, encode, decode, decodeStatus_eq, h1, h2, h3, h4]
  case epUnknown b =>
    simp only [Instr.wf, Bool.and_eq_true, bne_iff_ne] at hwf
    obtain ⟨⟨h2, h4⟩, h6⟩ := hwf
    simp [Instr.selMap, encode, decode, decodeEndpoint_eq, h2, h4, h6]
  case discReply b =>
    have h6 : b ≠ 6#8 := by simpa [Instr.wf] using hwf
    simp [Instr.selMap, encode, decode, decodeBoard_eq, h6]
  case h2dUnknown sel mox => exact congrArg Except.ok (decodeH2d_unknown (of_decide_eq_true hwf) mox)
  case d2hUnknown sel dot dash ptt => exact congrArg Except.ok (decodeD2h_unknown (of_decide_eq_true hwf) dot dash ptt)
  case sbD2hMulti n =>
    have hn : decodeLayout n = .sbD2hMulti n := Machine.decodeLayout_of_two_le (of_decide_eq_true hwf)
    have hword : leNat (encode (.sbD2hMulti n)) = n := hn ▸ leNat_encode_decodeLayout n
    exact congrArg Except.ok ((congrArg decodeLayout hword).trans hn)
  case d2hInfo dot dash ptt | d2hFwdPower dot dash ptt | d2hRevPower dot dash ptt | d2hSupply dot dash ptt
    | d2hAdcOverflow dot dash ptt => cases dot <;> cases dash <;> cases ptt <;> rfl
  case h2dConfig mox | h2dTxFreq mox | h2dRx1Freq mox | h2dRx2Freq mox | h2dRx3Freq mox | h2dRx4Freq mox | h2dRx5Freq mox
    | h2dRx6Freq mox | h2dRx7Freq mox | h2dDriveFilters mox | h2dPreampMicAdc1 mox | h2dAdc23Keyer mox | h2dMercury1Rsvd mox
    | h2dMercury2Rsvd mox | h2dAdcAssign mox | h2dCwSidetonePtt mox | h2dCwHangTone mox | h2dPwm mox => cases mox <;> rfl

/-- What decodes is well-formed: an arm for unlisted values is never reached by a listed one. -/
theorem decode_wf {m : SelMap} {w : List Byte} {i : Instr} (h : decode m w = .ok i) : i.wf = true := by
  unfold decode at h
  split at h <;> cases h
  · rfl
  · rfl
  · exact decodeStatus_wf _
  · exact decodeEndpoint_wf _
  · exact decodeBoard_wf _
  · exact decodeH2d_wf _
  · exact decodeD2h_wf _
  · exact decodeLayout_wf _

/-- No bit of a selector is dropped: the encoding of what a word decodes to begins the word. -/
theorem exists_append_encode {m : SelMap} {w : List Byte} {i : Instr} (h : decode m w = .ok i) :
    ∃ rest, w = encode i ++ rest := by
  unfold decode at h
  split at h <;> cases h
  · exact ⟨_, rfl⟩
  · exact ⟨_, rfl⟩
  · exact ⟨_, by rw [encode_decodeStatus]; rfl⟩
  · exact ⟨_, by rw [encode_decodeEndpoint]; rfl⟩
  · exact ⟨_, by rw [encode_decodeBoard]; rfl⟩
  · exact ⟨_, by rw [encode_decodeH2d]; rfl⟩
  · exact ⟨_, by rw [encode_decodeD2h]; rfl⟩
  · exact exists_append_encode_decodeLayout _ _

/-- A value is that of an if-chain's next row where the row's test holds, and that of the rows below where it does not. -/
theorem eq_ite_of {α : Type} {c : Prop} [Decidable c] {x y z : α} (hy : c → x = y) (hz : ¬ c → x = z) :
    x = if c then y else z := by
  split
  next h => exact hy h
  next h => exact hz h

end Sys2Proof
end

section
/-! SUPPORT. The word that a fetch reads in each map, and that every such word decodes. -/

namespace Sys2Proof.Machine

/-- The selector word of a map, for a sub-frame at `p` (rules R71, R73, R79, R80, R93, R151, R155, R308). -/
def selectorWord (s : State) (p : Nat) : SelMap → List Byte
  | .status => [byteAt s 2]
  | .endpoint => [byteAt s 3]
  | .discReply => [byteAt s 10]
  | .h2dControl | .d2hControl => [byteAt s (p + 3)]
  | .d2hSamples => [s.rc.setWidth 8]
  | .discQuery | .h2dSamples => []

theorem selectorWord_decodes (s : State) (p : Nat) (m : SelMap) : ∃ i, decode m (selectorWord s p m) = .ok i := by
  cases m <;> exact ⟨_, rfl⟩

/-- A word is read where the checks before it go on. -/
theorem Run.read_eq_word {r : Run} {m m' : SelMap} {f : State → List Byte} {w : List Byte} {t : State} :
    r.read m f = .word m' w t ↔ r = .go t ∧ m' = m ∧ w = f t := by
  cases r with
  | go u =>
    constructor
    · intro h
      cases h
      exact ⟨rfl, rfl, rfl⟩
    · rintro ⟨hgo, rfl, rfl⟩
      cases hgo
      rfl
  | trap u => simp [Run.read]

/-- Need leaves the state alone where it goes on. -/
theorem need_eq_go {off n : Nat} {s t : State} (h : need off n s = .go t) : t = s := by
  rcases need_cases off n s with hgo | htrap
  · cases hgo.symm.trans h; rfl
  · cases htrap.symm.trans h

/-- The byte that selects a control record is the one 3 bytes behind its base (rules R151 and R155). -/
theorem readC0_eq_word {r : Run} {mask : Byte} {m m' : SelMap} {w : List Byte} {t : State}
    (h : ((r.andThen fun s => (need (s.p + 3) 1 s).andThen fun s => .go (setC0 mask s)).read m fun s => [s.c0]) = .word m' w t) :
    m' = m ∧ w = [byteAt t (t.p + 3)] := by
  obtain ⟨hgo, rfl, rfl⟩ := Run.read_eq_word.mp h
  obtain ⟨u, -, hu⟩ := Run.andThen_eq_go.mp hgo
  obtain ⟨v, hv, hset⟩ := Run.andThen_eq_go.mp hu
  cases need_eq_go hv
  cases hset
  exact ⟨rfl, rfl⟩

/-- A fetched word belongs to the place the DECODE has reached, and the fetch has written P, SKIP, C0 and C0M at most. -/
theorem Fetches.word_frame {s t : State} {m : SelMap} {w : List Byte} (h : Fetches s (.word m w t)) :
    s.phase = phaseOf m ∧ t = { s with p := t.p, skip := t.skip, c0 := t.c0, c0m := t.c0m } := by
  cases h with
  | plain _ hm => exact ⟨hm, rfl⟩
  | control _ _ _ _ _ hm => exact ⟨hm, rfl⟩

/-- A fetched word is the selector word of its map. -/
theorem fetch_word {s t : State} {m : SelMap} {w : List Byte} (h : fetch s = .word m w t) :
    s.phase = phaseOf m ∧ t = { s with p := t.p, skip := t.skip, c0 := t.c0, c0m := t.c0m } ∧ w = selectorWord s t.p m := by
  obtain ⟨hphase, hframe⟩ := Fetches.word_frame (h ▸ fetch_fetches s)
  have hbyte : ∀ a, byteAt t a = byteAt s a := fun a => (congrArg (byteAt · a) hframe).trans rfl
  refine ⟨hphase, hframe, ?_⟩
  cases hph : s.phase with
  | idle => cases (fetch_idle hph).symm.trans h
  | status =>
    obtain ⟨-, rfl, rfl⟩ := Run.read_eq_word.mp ((fetch_status hph).symm.trans h)
    exact congrArg (fun b => [b]) (hbyte 2)
  | endpoint =>
    obtain ⟨-, rfl, rfl⟩ := Run.read_eq_word.mp ((fetch_endpoint hph).symm.trans h)
    exact congrArg (fun b => [b]) (hbyte 3)
  | discovery =>
    by_cases hport : s.dstPort = s.wellKnownPort
    · cases (fetch_discQuery hph hport).symm.trans h
      rfl
    · obtain ⟨-, rfl, rfl⟩ := Run.read_eq_word.mp ((fetch_discReply hph hport).symm.trans h)
      exact congrArg (fun b => [b]) (hbyte 10)
  | h2dControl =>
    obtain ⟨rfl, rfl⟩ := readC0_eq_word ((fetch_h2dControl hph).symm.trans h)
    exact congrArg (fun b => [b]) (hbyte (t.p + 3))
  | d2hControl =>
    obtain ⟨rfl, rfl⟩ := readC0_eq_word ((fetch_d2hControl hph).symm.trans h)
    exact congrArg (fun b => [b]) (hbyte (t.p + 3))
  | h2dSamples =>
    cases (fetch_h2dSamples hph).symm.trans h
    rfl
  | d2hSamples =>
    cases (fetch_d2hSamples hph).symm.trans h
    rfl

end Sys2Proof.Machine
end

section
/-! SUPPORT. One field of a record in the vocabulary of the statements, one lemma per kind of field; and what a control record
or the Discovery dispatch does in that vocabulary. -/

namespace Sys2Proof.Machine

open Sys2Proof.Spec

/-! ### Numbers -/

/-- The 10-bit reconstruction is the first byte's four-fold and the low two bits of the second (rule R85). -/
theorem rec10_eq (a b : Byte) : rec10 a b = a.toNat * 4 + b.toNat % 4 := by
  have ha : a.toNat < 2 ^ 8 := a.isLt
  have hlow : (b &&& 3#8).toNat = b.toNat % 4 := by
    rw [BitVec.toNat_and]
    exact Nat.and_two_pow_sub_one_eq_mod b.toNat 2
  have hb : (b &&& 3#8).toNat < 2 ^ 2 := hlow ▸ Nat.mod_lt _ (by decide)
  have hshift : (a.setWidth 10 <<< 2).toNat = a.toNat <<< 2 := by
    simp only [BitVec.toNat_shiftLeft, BitVec.toNat_setWidth, Nat.shiftLeft_eq]
    omega
  have hset : ((b &&& 3#8).setWidth 10).toNat = (b &&& 3#8).toNat := by
    rw [BitVec.toNat_setWidth]
    omega
  rw [rec10, BitVec.toNat_or, hshift, hset, ← Nat.shiftLeft_add_eq_or_of_lt hb, Nat.shiftLeft_eq, hlow]

theorem rec10_le (a b : Byte) : rec10 a b ≤ 1023 := by
  have ha : a.toNat < 256 := a.isLt
  rw [rec10_eq]
  omega

/-! ### Fields -/

section

variable (s : State) (a : Nat) (name : FieldName)

/-- A byte as a big-endian value (rule R9). -/
theorem beNat_bytesAt_one : beNat (bytesAt s a 1) = u8 s a := by
  simp [bytesAt, beNat, u8]

theorem fieldItem_flag (i : Nat) : fieldItem s ⟨a, 1, name, .flag i⟩ = flagAt s a i name := rfl

theorem fieldItem_bits (hi lo : Nat) : fieldItem s ⟨a, 1, name, .bits hi lo⟩ = bitsAt s a lo (hi + 1 - lo) name := rfl

theorem fieldItem_countField (hi lo : Nat) :
    fieldItem s ⟨a, 1, name, .countField hi lo⟩ = fieldAt s a 1 name (.uint (u8 s a / 2 ^ lo % 2 ^ (hi + 1 - lo) + 1)) := rfl

theorem fieldItem_given (n : Nat) (v : Value) : fieldItem s ⟨a, n, name, .given v⟩ = fieldAt s a n name v := rfl

theorem fieldItem_bytes (n : Nat) : fieldItem s ⟨a, n, name, .bytes⟩ = bytesFieldAt s a n name := rfl

theorem fieldItem_uint_one : fieldItem s ⟨a, 1, name, .uint⟩ = byteFieldAt s a name :=
  congrArg (fun v => fieldAt s a 1 name (.uint v)) (beNat_bytesAt_one s a)

theorem fieldItem_ver : fieldItem s ⟨a, 1, name, .ver⟩ = verAt s a name :=
  congrArg (fun v => fieldAt s a 1 name (.ver (v / 10) (v % 10))) (beNat_bytesAt_one s a)

theorem fieldItem_rec10 : fieldItem s ⟨a, 2, name, .rec10⟩ = fieldAt s a 2 name (.uint (ten s a)) :=
  congrArg (fun v => fieldAt s a 2 name (.uint v)) (rec10_eq _ _)

theorem fieldItem_rec10Less (offset : Int) :
    fieldItem s ⟨a, 2, name, .rec10Less offset⟩ = fieldAt s a 2 name (.sint ((ten s a : Int) - offset)) :=
  congrArg (fun v : Nat => fieldAt s a 2 name (.sint ((v : Int) - offset))) (rec10_eq _ _)

end

/-! ### Control records -/

/-- OUT after the head of a Host→Device record and its fields (rules R151 and R154). -/
theorem h2dHead_out (s : State) (c0m : Byte) (mox : Bool) (items : List Item) :
    s.out ++ [fieldItem s ⟨s.p, 3, .sync, .bytes⟩] ++ (if 0 < s.skip then [.diag .lateSync s.skip s.p] else [])
        ++ [fieldItem s ⟨s.p + 3, 1, .c0_type, .given (.enum c0m.toNat)⟩, fieldItem s ⟨s.p + 3, 1, .mox, .given (.bool mox)⟩]
        ++ items
      = s.out ++ h2dHeadItems s c0m.toNat mox ++ items := by
  simp only [h2dHeadItems, fieldItem_bytes, fieldItem_given, List.append_assoc]

/-- A Host→Device control record that lies in the datagram and writes no register (rules R151 and R154). -/
theorem h2dRecord_eq_afterH2d {s : State} (c0m : Byte) (mox : Bool) (layout : Nat → List FieldSpec)
    (h : s.p + 8 ≤ s.len) (hl : ∀ f ∈ layout (s.p + 4), f.off + f.n ≤ s.p + 8) :
    h2dRecord c0m mox layout id s = .next (afterH2d s c0m.toNat mox ((layout (s.p + 4)).map (fieldItem s))) := by
  rw [h2dRecord_fits c0m mox layout id h hl, h2dHead_out]
  rfl

/-- The same for a record that ends in the update of RC (rules R181 and R182). -/
theorem h2dRecord_learnReceiverCount {s : State} (c0m : Byte) (mox : Bool) (layout : Nat → List FieldSpec)
    (guard : BitVec 3 → Bool) (h : s.p + 8 ≤ s.len) (hl : ∀ f ∈ layout (s.p + 4), f.off + f.n ≤ s.p + 8) :
    h2dRecord c0m mox layout (learnReceiverCount guard) s =
      .next { afterH2d s c0m.toNat mox ((layout (s.p + 4)).map (fieldItem s)) with
        rc := if guard s.rf then rcNew (byteAt s (s.p + 7)) else s.rc } := by
  rw [h2dRecord_fits c0m mox layout _ h hl, h2dHead_out, learnReceiverCount_spec]
  rfl

/-- A Device→Host control record that lies in the datagram (rules R155 and R156). -/
theorem d2hRecord_eq_afterD2h {s : State} (c0m : Byte) (dot dash ptt : Bool) (layout : Nat → List FieldSpec)
    (h : s.p + 8 ≤ s.len) (hl : ∀ f ∈ layout (s.p + 4), f.off + f.n ≤ s.p + 8) :
    d2hRecord c0m dot dash ptt layout s =
      .next (afterD2h s c0m.toNat dot dash ptt ((layout (s.p + 4)).map (fieldItem s))) := by
  have hpay : ∀ f ∈ layout (s.p + 4), f.off + f.n ≤ s.len := fun f hf => Nat.le_trans (hl f hf) h
  unfold d2hRecord d2hHead
  rw [emitAll_fits (by simp; omega), Run.andThen_go, need_fits (by exact h), Run.andThen_go, emitAll_fits (by exact hpay)]
  rfl

/-! ### Discovery and the opaque sample block -/

theorem exec_sbD2hBlob (s : State) :
    exec .sbD2hBlob s = sampleBlock Config.literals .d2h (fun b => [⟨b, 504, .samples_raw, .bytes⟩]) s := rfl

/-- A reply goes to the row of its board id (rules R80 and R119). -/
theorem step_of_discReply {s : State} (hphase : s.phase = .discovery) (hport : s.dstPort ≠ s.wellKnownPort)
    (hlen : 11 ≤ s.len) : step s = exec (decodeBoard (byteAt s 10)) s := by
  rw [step_eq, fetch_discReply hphase hport, need_fits (by omega), Run.andThen_go, need_fits (by omega), Run.andThen_go,
    need_fits hlen]
  rfl

/-- A reply without its board id is Truncated at the first of its fields that does not fit (rule R121). -/
theorem step_of_discReply_short {s : State} {e : Fatal} (hphase : s.phase = .discovery) (hport : s.dstPort ≠ s.wellKnownPort)
    (h : ((need 3 6 s).andThen (need 9 1)).andThen (need 10 1) = .trap (raise e s)) : step s = .next (fatal s e) := by
  rw [step_eq, fetch_discReply hphase hport, h]
  rfl

end Sys2Proof.Machine
end

section
/-! THEOREMS. The obligations about the decoder and the encoder, about what a fetch reads, about the control records whose
fields are listed above, and about the opaque sample block. -/

namespace Sys2Proof.Proofs

open Sys2Proof Sys2Proof.Machine Sys2Proof.Spec

/-- Settles O37 (`decode_encode`): by the constructors, with the receiver count read back from its bytes. -/
theorem decodeOfEncodeIsTheInstruction : Obligations.DecodeOfEncodeIsTheInstruction := fun _ hwf => decode_encode hwf

/-- Settles O38: each map's decoder answers well-formed rows of its map, whose encoding is the byte it read. -/
theorem encodeOfDecodeIsTheSelector : Obligations.EncodeOfDecodeIsTheSelector :=
  fun _ _ _ h => ⟨decode_wf h, decode_selMap h, exists_append_encode h⟩

/-- Settles O35: each word is evaluated. -/
theorem selectorWordsDecodeToTheirRows : Obligations.SelectorWordsDecodeToTheirRows :=
  ⟨rfl, rfl, rfl, rfl, rfl, rfl, rfl, rfl⟩

/-- Settles O36: the tables are read row by row; below the last row the selector is one that the map does not list. -/
theorem selectorMapsFollowTheTables : Obligations.SelectorMapsFollowTheTables := by
  refine ⟨fun b => congrArg Except.ok (decodeStatus_eq b), fun b => congrArg Except.ok (decodeEndpoint_eq b),
    fun b => congrArg Except.ok (decodeBoard_eq b), fun c0m mox hmask => congrArg Except.ok ?_,
    fun c0m dot dash ptt hmask => congrArg Except.ok ?_, fun rc => congrArg Except.ok ?_, rfl, rfl⟩
  · have heven : 2 ∣ c0m.toNat := two_dvd_c0m c0m hmask
    rw [c0m_or_mox c0m mox hmask]
    iterate 18 refine eq_ite_of (fun h => by rw [h]; cases mox <;> rfl) fun _ => ?_
    refine decodeH2d_unknown ?_ mox
    bv_omega
  · have hoct : 8 ∣ c0m.toNat := eight_dvd_c0m c0m hmask
    rw [c0m_or_flags c0m dot dash ptt hmask]
    iterate 5 refine eq_ite_of (fun h => by rw [h]; cases dot <;> cases dash <;> cases ptt <;> rfl) fun _ => ?_
    refine decodeD2h_unknown ?_ dot dash ptt
    bv_omega
  · rw [leNat_rc]
    refine eq_ite_of (fun h => by rw [h]; rfl) fun h0 => eq_ite_of (fun h => by rw [h]; rfl) fun h1 => ?_
    exact decodeLayout_of_two_le (by bv_omega)

/-- Settles O39: a fetch reads its map's selector word (`fetch_word`), and every such word decodes. -/
theorem everyFetchedSelectorDecodes : Obligations.EveryFetchedSelectorDecodes := by
  intro s t m w h
  obtain ⟨hphase, hframe, rfl⟩ := fetch_word h
  refine ⟨selectorWord_decodes s t.p m, hframe, ?_⟩
  rw [hphase]
  cases m <;> simp [phaseOf, selectorWord]

/-- Settles O10: the port decides whether the board id is fetched, the first Need that fails is the error, and the board id's
value is the row (`decodeBoard_eq`). -/
theorem discoveryDispatchReadsPortThenBoard : Obligations.DiscoveryDispatchReadsPortThenBoard := by
  intro s hphase
  refine ⟨fun hport hlen => ?_, fun hport hlen => ?_, fun hport hlen => ?_, fun hport => ?_, fun hport hlen hboard => ?_,
    fun hport hlen hboard => ?_⟩
  · refine step_of_discReply_short hphase hport ?_
    rw [need_short hlen, Run.andThen_trap, Run.andThen_trap]
  · refine step_of_discReply_short hphase hport ?_
    rw [need_fits (by omega), Run.andThen_go, need_short (by omega), Run.andThen_trap]
  · refine step_of_discReply_short hphase hport ?_
    rw [need_fits (by omega), Run.andThen_go, need_fits (by omega), Run.andThen_go, need_short (by omega)]
  · rw [step_eq, fetch_discQuery hphase hport]
    rfl
  · have h6 : byteAt s 10 = 0x06#8 := BitVec.eq_of_toNat_eq hboard
    rw [step_of_discReply hphase hport hlen, h6]
    rfl
  · have h6 : byteAt s 10 ≠ 0x06#8 := fun h => hboard (congrArg BitVec.toNat h)
    rw [step_of_discReply hphase hport hlen, decodeBoard_eq, if_neg h6]

/-- Settles O11: the record's layout field by field, and the guard as the two values of RF it admits. -/
theorem h2dConfigEmitsFieldsAndLearnsReceiverCount : Obligations.H2dConfigEmitsFieldsAndLearnsReceiverCount := by
  intro s mox h
  have hexec : exec (.h2dConfig mox) s = h2dRecord 0x00#8 mox configLayout (learnReceiverCount rcUpdateGuard) s := by rfl
  rw [hexec, h2dRecord_learnReceiverCount _ _ _ _ h (by simp [configLayout])]
  simp only [configLayout, List.map_cons, List.map_nil, fieldItem_flag, fieldItem_bits, fieldItem_countField, rcUpdateGuard_iff]
  rfl

/-- Settles O18: the two layouts field by field; rec10 is `rec10_eq`. -/
theorem h2dCwRecordsEmitTheirFields : Obligations.H2dCwRecordsEmitTheirFields := by
  intro s mox h
  constructor
  · rw [exec, execH2dCwSidetonePtt, h2dRecord_eq_afterH2d _ _ _ h (by simp)]
    simp only [List.map_cons, List.map_nil, fieldItem_flag, fieldItem_uint_one]
    rfl
  · rw [exec, execH2dCwHangTone, execH2dCwHangToneWith, h2dRecord_eq_afterH2d _ _ _ h (by simp)]
    simp only [List.map_cons, List.map_nil, fieldItem_rec10, fieldItem_rec10Less]
    rfl

/-- Settles O22: the record's layout field by field. -/
theorem d2hInfoEmitsFlagsAndVersions : Obligations.D2hInfoEmitsFlagsAndVersions := by
  intro s dot dash ptt h
  rw [exec, execD2hInfo, d2hRecord_eq_afterD2h _ _ _ _ _ h (by simp [infoLayout])]
  simp only [infoLayout, List.map_cons, List.map_nil, fieldItem_flag, fieldItem_ver]
  rfl

/-- Settles O27: the blob is a sample block of one field, which fits or is the first past L. -/
theorem sbD2hBlobIsOneOpaqueField : Obligations.SbD2hBlobIsOneOpaqueField := by
  intro s
  refine ⟨fun hphase hrc => ?_, fun hfit => ?_, fun hshort => ?_⟩
  · rw [step_of_d2hSamples hphase, hrc]
    rfl
  · rw [exec_sbD2hBlob, sampleBlock_eq_afterBlock _ _ (by simpa using hfit)]
    rfl
  · have hpast : s.len < s.p + 8 + 504 := hshort
    rw [exec_sbD2hBlob, sampleBlock_eq_fatal (f := ⟨s.p + 8, 504, .samples_raw, .bytes⟩) _ _ _ (by simp [firstPast, hpast])]

/-- Settles O31 (`rec10_eq`, `rec10_le`); the spec's example is evaluated. -/
theorem rec10CombinesEightAndTwoBits : Obligations.Rec10CombinesEightAndTwoBits :=
  ⟨fun a b => ⟨rec10_eq a b, rec10_le a b⟩, rfl⟩

end Sys2Proof.Proofs
end

section
/-! SUPPORT. Every instruction and every step of a DECODE has a next state, and each step leaves fewer of them to take. -/

namespace Sys2Proof.Machine

/-! ### Every instruction and every busy step has a next state -/

/-- Every meaning is a run of its parts, with no other way out. -/
theorem exec_eq_outcome (i : Instr) (s : State) : ∃ r : Run, exec i s = r.outcome := by
  cases hm : i.selMap with
  | status =>
    cases i
    case stData | stDiscovery | stSetip | stStartstop | stUnknown => exact ⟨_, rfl⟩
    all_goals cases hm
  | endpoint =>
    cases i
    case ep2H2d | ep6D2h => exact ⟨.go _, rfl⟩
    case ep4Raw => exact ⟨_, by unfold exec; rfl⟩
    case epUnknown => exact ⟨.trap _, rfl⟩
    all_goals cases hm
  | discQuery =>
    cases i
    case discQuery => exact ⟨_, rfl⟩
    all_goals cases hm
  | discReply =>
    cases i
    case discReply | discReplyHl => exact ⟨_, rfl⟩
    all_goals cases hm
  | h2dControl =>
    obtain ⟨c0m, mox, layout, write, hi, -⟩ := exec_of_h2dControl hm
    exact ⟨_, hi s⟩
  | d2hControl =>
    obtain ⟨c0m, dot, dash, ptt, layout, hi⟩ := exec_of_d2hControl hm
    exact ⟨_, hi s⟩
  | h2dSamples =>
    obtain ⟨layout, hi, -⟩ := exec_of_h2dSamples hm
    exact ⟨_, hi s⟩
  | d2hSamples =>
    obtain ⟨layout, hi, -⟩ := exec_of_d2hSamples hm
    exact ⟨_, hi s⟩

theorem exec_next (i : Instr) (s : State) : ∃ t, exec i s = .next t := by
  obtain ⟨r, hr⟩ := exec_eq_outcome i s
  rw [hr]
  exact r.outcome_next

/-- A step runs the instruction that its fetch reads (rules R110 and R112). -/
theorem step_of_fetch {s t : State} {m : SelMap} {w : List Byte} {i : Instr} (hf : fetch s = .word m w t)
    (hd : decode m w = .ok i) : step s = exec i t := by
  rw [step_eq, hf]
  simp only [hd]

/-- A step whose fetch is fatal ends there (rule R334). -/
theorem step_of_fetch_trap {s t : State} (hf : fetch s = .trap t) : step s = .next t := by
  rw [step_eq, hf]

/-- While a DECODE is in progress the fetch gives a word that decodes, or is fatal (rules R128, R333 and R338). -/
theorem step_next_of_busy {s : State} (hbusy : s.phase ≠ .idle) : ∃ t, step s = .next t := by
  cases hf : fetch s with
  | idle =>
    cases hf ▸ fetch_fetches s with
    | idle hidle => exact absurd hidle hbusy
  | trap t => exact ⟨t, step_of_fetch_trap hf⟩
  | word m w t =>
    obtain ⟨-, -, rfl⟩ := fetch_word hf
    obtain ⟨i, hd⟩ := selectorWord_decodes s t.p m
    rw [step_of_fetch hf hd]
    exact exec_next i t

/-! ### A DECODE ends -/

/-- How many steps a DECODE can still take from a place and a slot: two for each sub-frame that is left, one for the endpoint
and one for the status before them. -/
def stepsLeft : Phase → Slot → Nat
  | .idle, _ => 0
  | .status, _ => 6
  | .endpoint, _ => 5
  | .discovery, _ => 1
  | .h2dControl, .one | .d2hControl, .one => 4
  | .h2dSamples, .one | .d2hSamples, .one => 3
  | .h2dControl, .two | .d2hControl, .two => 2
  | .h2dSamples, .two | .d2hSamples, .two => 1

theorem stepsLeft_le (ph : Phase) (sl : Slot) : stepsLeft ph sl ≤ 6 := by
  cases ph <;> cases sl <;> decide

theorem stepsLeft_pos {ph : Phase} (h : ph ≠ .idle) (sl : Slot) : 0 < stepsLeft ph sl := by
  cases ph with
  | idle => exact absurd rfl h
  | _ => cases sl <;> decide

/-- What a step of a DECODE achieves: it ends the DECODE with a RESULT, or leaves fewer steps to take. -/
def Advances (s t : State) : Prop :=
  (t.phase = .idle ∧ t.result ≠ none) ∨ (t.phase ≠ .idle ∧ stepsLeft t.phase t.slot < stepsLeft s.phase s.slot)

/-- An instruction run at its place: the endpoint follows the status, a sub-frame's sample block its control record, and slot
2 follows slot 1 (rules R113 to R115, R119, R157, R158). -/
theorem Ends.advances {i : Instr} {s t : State} (h : Ends i s t) (hplace : s.phase = phaseOf i.selMap) : Advances s t := by
  cases h with
  | fatal e => exact .inl ⟨rfl, nofun⟩
  | toEndpoint hm =>
    rw [hm] at hplace
    exact .inr ⟨nofun, by simp [hplace, phaseOf, stepsLeft]⟩
  | toDiscovery hm =>
    rw [hm] at hplace
    exact .inr ⟨nofun, by simp [hplace, phaseOf, stepsLeft]⟩
  | toSubframe d hm =>
    rw [hm] at hplace
    refine .inr ?_
    cases d <;> simp [hplace, phaseOf, stepsLeft, enterSubframe]
  | toSamples d hm =>
    rw [hm] at hplace
    refine .inr ?_
    cases d <;> cases s.slot <;> simp [hplace, phaseOf, stepsLeft, Dir.controlMap, Dir.samplePhase]
  | subframeEnd d hm =>
    rw [hm] at hplace
    rw [endSubframe_spec]
    split
    · next hslot =>
      have hone : s.slot = .one := hslot
      refine .inr ?_
      cases d <;> simp [hplace, hone, phaseOf, stepsLeft, Dir.sampleMap, enterSubframe]
    · exact .inl ⟨rfl, nofun⟩
  | complete => exact .inl ⟨rfl, nofun⟩

/-- A step of a DECODE in progress. -/
theorem Steps.advances {s t : State} (h : Steps s t) (hbusy : s.phase ≠ .idle) : Advances s t := by
  cases h with
  | start hidle => exact absurd hidle hbusy
  | trap => exact .inl ⟨rfl, nofun⟩
  | @run i w u _ hf h =>
    obtain ⟨hphase, hframe⟩ := hf.word_frame
    have hu : u.phase = s.phase ∧ u.slot = s.slot := by rw [hframe]; exact ⟨rfl, rfl⟩
    have hadv := h.advances (hu.1.trans hphase)
    rwa [Advances, hu.1, hu.2] at hadv

theorem stateAfter_succ {s t : State} (h : step s = .next t) (k : Nat) : stateAfter (k + 1) s = stateAfter k t := by
  simp only [stateAfter, h]

/-- A DECODE with at most `n` steps left ends within them (rule R128). -/
theorem ends_within {n : Nat} {s : State} (hbusy : s.phase ≠ .idle) (hn : stepsLeft s.phase s.slot ≤ n) :
    ∃ k ≤ n, ∃ t, stateAfter k s = some t ∧ t.phase = .idle ∧ t.result ≠ none := by
  induction n generalizing s with
  | zero => exact absurd hn (Nat.not_le.mpr (stepsLeft_pos hbusy s.slot))
  | succ n ih =>
    obtain ⟨t, ht⟩ := step_next_of_busy hbusy
    rcases (step_steps ht).advances hbusy with hend | ⟨hbusy', hlt⟩
    · exact ⟨1, Nat.le_add_left 1 n, t, stateAfter_succ ht 0, hend⟩
    · obtain ⟨k, hk, u, hrun, hend⟩ := ih hbusy' (by omega)
      exact ⟨k + 1, Nat.succ_le_succ hk, u, (stateAfter_succ ht k).trans hrun, hend⟩

end Sys2Proof.Machine
end

section
/-! THEOREMS. The obligations about the course of a DECODE. -/

namespace Sys2Proof.Proofs

open Sys2Proof Sys2Proof.Machine Sys2Proof.Spec

/-- Settles O48: a busy step has a next state and leaves fewer steps to take, of which there are six at most (`ends_within`). -/
theorem everyDecodeEndsWithAResult : Obligations.EveryDecodeEndsWithAResult :=
  fun s hbusy => ends_within hbusy (stepsLeft_le s.phase s.slot)

/-- Settles O53: every meaning is a run, and what a fetch reads decodes. -/
theorem everyInstructionHasANextState : Obligations.EveryInstructionHasANextState :=
  ⟨exec_next, fun _ => step_next_of_busy⟩

/-- Settles O40, by the equation of a step (`step_eq`). -/
theorem stepRunsTheDecodedInstruction : Obligations.StepRunsTheDecodedInstruction := fun _ _ _ _ _ => step_of_fetch

end Sys2Proof.Proofs
end

section
/-! SUPPORT. What the parts of a datagram do in the vocabulary of the statements: unsigned fields, a layout that passes L, the
header, what follows it, and the pad region that ends a datagram. -/

namespace Sys2Proof.Machine

open Sys2Proof.Spec

/-! ### Unsigned fields -/

section

variable (s : State) (a : Nat) (name : FieldName)

/-- Two bytes as a big-endian value (rule R9). -/
theorem beNat_bytesAt_two : beNat (bytesAt s a 2) = u16 s a := by
  change u8 s a * 256 ^ 1 + (u8 s (a + 1) * 256 ^ 0 + 0) = u16 s a
  simp [u16]

/-- Four bytes as a big-endian value (rule R9). -/
theorem beNat_bytesAt_four : beNat (bytesAt s a 4) = u32 s a := by
  change u8 s a * 256 ^ 3 + (u8 s (a + 1) * 256 ^ 2 + (u8 s (a + 2) * 256 ^ 1 + (u8 s (a + 3) * 256 ^ 0 + 0))) = u32 s a
  unfold u32
  omega

theorem fieldItem_uint_two : fieldItem s ⟨a, 2, name, .uint⟩ = fieldAt s a 2 name (.uint (u16 s a)) :=
  congrArg (fun v => fieldAt s a 2 name (.uint v)) (beNat_bytesAt_two s a)

theorem fieldItem_uint_four : fieldItem s ⟨a, 4, name, .uint⟩ = fieldAt s a 4 name (.uint (u32 s a)) :=
  congrArg (fun v => fieldAt s a 4 name (.uint v)) (beNat_bytesAt_four s a)

theorem fieldItem_enum_one : fieldItem s ⟨a, 1, name, .enum⟩ = fieldAt s a 1 name (.enum (u8 s a)) :=
  congrArg (fun v => fieldAt s a 1 name (.enum v)) (beNat_bytesAt_one s a)

end

/-- RUN_FLAGS_ENCODE is the table of the two low bits (rule R125). -/
theorem runFlagsEncode_eq (w : Byte) : runFlagsEncode w = runFlagsOf w.toNat := by
  revert w
  decide

/-! ### A layout that passes L -/

/-- A layout with a first field that passes L is Truncated there (rule R54). -/
theorem emitAll_past {fs : List FieldSpec} {s : State} {f : FieldSpec} (h : firstPast s.len fs = some f) :
    emitAll fs s = .trap (fatal s (.truncated f.off f.n)) := by
  unfold firstPast at h
  rw [emitAll_spec, h]
  rfl

/-- In a row of `count` fields of `w` bytes each from `b` on, the first that passes `len` is the one that `len` falls in, or
the first of all where `len` is before the row. -/
theorem firstPast_row {len b w count : Nat} {field : Nat → FieldSpec} (hw : 0 < w) (hcount : 0 < count)
    (hfield : ∀ i, (field i).off + (field i).n = b + w * (i + 1)) (h : len < b + w * count) :
    firstPast len ((List.range count).map field) = some (field ((len - b) / w)) := by
  have hpast : ∀ i, len < (field i).off + (field i).n ↔ (len - b) / w < i + 1 := fun i => by
    have hpos : 0 < w * (i + 1) := Nat.mul_pos hw (Nat.succ_pos i)
    rw [hfield, Nat.div_lt_iff_lt_mul hw, Nat.mul_comm (i + 1)]
    omega
  have hlast : (len - b) / w < count := by
    have hpos : 0 < w * count := Nat.mul_pos hw hcount
    rw [Nat.div_lt_iff_lt_mul hw, Nat.mul_comm count]
    omega
  have hfirst : (List.range count).find? (fun i => decide (len < (field i).off + (field i).n)) = some ((len - b) / w) :=
    List.find?_range_eq_some.mpr ⟨by simp [hpast], List.mem_range.mpr hlast, fun j hj => by simp [hpast]; omega⟩
  rw [firstPast, List.find?_map]
  exact congrArg (Option.map field) hfirst

/-! ### The header and the fields behind it -/

/-- The header of a datagram of 3 bytes or more (rule R111). -/
theorem header_fits {s : State} (h : 3 ≤ s.len) :
    header s = .go { s with cur := 3, out := s.out ++ headerItems s } := by
  unfold header
  rw [need_fits (by omega), Run.andThen_go, emitAll_fits (by simp; omega), Run.andThen_go]
  simp only [List.map_cons, List.map_nil, fieldItem_uint_two, fieldItem_enum_one]
  rfl

/-- A shorter datagram has no header (rules R54 and R111). -/
theorem header_short {s : State} (h : s.len < 3) : header s = .trap (fatal s (.truncated 0 3)) := by
  unfold header
  rw [need_short (by omega)]
  rfl

/-- Fields behind the header that lie in the datagram. -/
theorem header_emitAll_fits {s : State} {fs : List FieldSpec} (h3 : 3 ≤ s.len) (h : ∀ f ∈ fs, f.off + f.n ≤ s.len) :
    (header s).andThen (emitAll fs) = .go { s with cur := 3, out := s.out ++ (headerItems s ++ fs.map (fieldItem s)) } := by
  rw [header_fits h3, Run.andThen_go, emitAll_fits (by exact h), ← List.append_assoc]
  rfl

/-- Fields behind the header the first of which to pass L is `f`. -/
theorem header_emitAll_past {s : State} {fs : List FieldSpec} {f : FieldSpec} (h3 : 3 ≤ s.len)
    (h : firstPast s.len fs = some f) : (header s).andThen (emitAll fs) = .trap (fatal s (.truncated f.off f.n)) := by
  rw [header_fits h3, Run.andThen_go, emitAll_past (by exact h)]
  rfl

/-! ### Datagrams that end in a pad region -/

/-- The pad region behind the run `r`, and the end of the DECODE (rules R110 and R118). -/
def endInPad (off nominal : Nat) (r : Run) : Step :=
  ((r.andThen (padRegion off nominal)).andThen fun u => .go (finish u)).outcome

/-- A fatal error before the pad. -/
theorem endInPad_trap (off nominal : Nat) (t : State) : endInPad off nominal (.trap t) = .next t := rfl

/-- A pad that lies in the datagram. -/
theorem endInPad_fits {s : State} {off nominal : Nat} (c : Nat) (items : List Item) (h : off + padLen s nominal ≤ s.len) :
    endInPad off nominal (.go { s with cur := c, out := s.out ++ items }) =
      .next (completed s (off + padLen s nominal) (items ++ [bytesFieldAt s off (padLen s nominal) .pad])) := by
  have hfit : ¬ s.len < off + padLength s nominal := Nat.not_lt.mpr h
  rw [endInPad, Run.andThen_go, padRegion_spec, if_neg (by exact hfit), ← finish_eq_completed, ← List.append_assoc]
  rfl

/-- A pad that passes L (rules R54 and R118). -/
theorem endInPad_short {s : State} {off nominal : Nat} (c : Nat) (items : List Item) (h : s.len < off + padLen s nominal) :
    endInPad off nominal (.go { s with cur := c, out := s.out ++ items }) =
      .next (fatal s (.truncated off (padLen s nominal))) := by
  rw [endInPad, Run.andThen_go, padRegion_spec, if_pos (by exact h)]
  rfl

/-- The fields of a SetIp datagram between its header and its pad (rule R123). -/
def setipLayout : List FieldSpec := [⟨3, 6, .mac, .bytes⟩, ⟨9, 4, .ipv4, .bytes⟩]

theorem exec_stSetip (s : State) : exec .stSetip s = endInPad 13 8 ((header s).andThen (emitAll setipLayout)) := rfl

/-- The fields of a StartStop datagram between its header and its pad (rule R124). -/
def startstopLayout : List FieldSpec := [⟨3, 1, .iq_stream, .flag 0⟩, ⟨3, 1, .wideband_stream, .flag 1⟩]

theorem exec_stStartstop (s : State) :
    exec .stStartstop s = endInPad 4 60
      (((header s).andThen (emitAll startstopLayout)).andThen fun u => .go (setRf (runFlagsEncode (byteAt u 3)) u)) := rfl

/-- StartStop with its run byte in the datagram: RF is written before the pad is checked (rules R124, R125, R335). -/
theorem exec_stStartstop_of_runByte {s : State} (h : 4 ≤ s.len) :
    exec .stStartstop s = endInPad 4 60 (.go { s with
      rf := runFlagsOf (u8 s 3)
      cur := 3
      out := s.out ++ (headerItems s ++ startstopLayout.map (fieldItem s)) }) := by
  rw [exec_stStartstop, header_emitAll_fits (by omega) (by simp [startstopLayout]; omega), Run.andThen_go, runFlagsEncode_eq]
  rfl

theorem exec_discQuery (s : State) :
    exec .discQuery s = endInPad 3 60 (emit ⟨3, 0, .discovery_query, .given .marker⟩ s) := rfl

theorem exec_discReply (board : Byte) (s : State) :
    exec (.discReply board) s = endInPad 11 49 (emitAll (replyLayout board) s) := rfl

theorem exec_discReplyHl (s : State) :
    exec .discReplyHl s =
      endInPad 20 40 ((emitAll (replyLayout 0x06#8) s).andThen (emit ⟨11, 9, .hl_version_string, .bytes⟩)) := rfl

/-- The query's marker has no bytes, so it passes where the header has (rule R120). -/
theorem emit_discovery_query {s : State} (h : 3 ≤ s.len) :
    emit ⟨3, 0, .discovery_query, .given .marker⟩ s =
      .go { s with cur := s.cur, out := s.out ++ [fieldAt s 3 0 .discovery_query .marker] } := by
  rw [emit_spec, if_neg (by simpa using h)]
  rfl

/-- The fields that every reply carries (rule R121). -/
def replyItems (s : State) (board : Byte) : List Item :=
  [bytesFieldAt s 3 6 .hw_address, verAt s 9 .version, fieldAt s 10 1 .board_id (.enum board.toNat)]

theorem emitAll_replyLayout {s : State} (board : Byte) (h : 11 ≤ s.len) :
    emitAll (replyLayout board) s = .go { s with cur := s.cur, out := s.out ++ replyItems s board } := by
  rw [emitAll_fits (by simp [replyLayout]; omega)]
  simp only [replyLayout, replyItems, List.map_cons, List.map_nil, fieldItem_ver]
  rfl

/-- The version string of a Hermes_Lite reply, behind the fields of every reply (rule R122). -/
theorem emit_hl_version_string {s : State} (h : 20 ≤ s.len) :
    (emitAll (replyLayout 0x06#8) s).andThen (emit ⟨11, 9, .hl_version_string, .bytes⟩) =
      .go { s with
        cur := s.cur
        out := s.out ++ (replyItems s 0x06#8 ++ [bytesFieldAt s 11 9 .hl_version_string]) } := by
  rw [emitAll_replyLayout _ (by omega), Run.andThen_go, emit_spec, if_neg (by exact Nat.not_lt.mpr h), ← List.append_assoc]
  rfl

/-- A reply without the whole version string (rules R54 and R122). -/
theorem emit_hl_version_string_short {s : State} (h : 11 ≤ s.len) (hshort : s.len < 20) :
    (emitAll (replyLayout 0x06#8) s).andThen (emit ⟨11, 9, .hl_version_string, .bytes⟩) =
      .trap (fatal s (.truncated 11 9)) := by
  rw [emitAll_replyLayout _ h, Run.andThen_go, emit_spec, if_pos (by exact hshort)]
  rfl

/-! ### Endpoint 4 -/

theorem exec_ep4Raw (s : State) :
    exec .ep4Raw s =
      ((emitAll (ep4Layout s.cur) s).andThen fun u => .go (finish (goto (s.cur + 1024) u.phase u))).outcome := by
  unfold exec
  rfl

/-- The 512 samples lie in the 1024 bytes from `b` on (rule R116). -/
theorem ep4Layout_fits {b : Nat} {f : FieldSpec} (hf : f ∈ ep4Layout b) : f.off + f.n ≤ b + 1024 := by
  obtain ⟨i, hi, rfl⟩ := List.mem_map.mp hf
  have hlt : i < 512 := List.mem_range.mp hi
  dsimp only
  omega

theorem ep4Layout_map_fieldItem (s : State) (b : Nat) :
    (ep4Layout b).map (fieldItem s) =
      (List.range 512).map fun i => fieldAt s (b + 2 * i) 2 (.ep4_sample i) (.sint (s16 s (b + 2 * i))) := by
  rw [ep4Layout, List.map_map]
  exact List.map_congr_left fun i _ => fieldItem_sint_two s (b + 2 * i) (.ep4_sample i)

/-- The first sample that does not fit (rule R54). -/
theorem firstPast_ep4Layout {len b : Nat} (h : len < b + 1024) :
    firstPast len (ep4Layout b) = some ⟨b + 2 * ((len - b) / 2), 2, .ep4_sample ((len - b) / 2), .sint⟩ :=
  firstPast_row (w := 2) (by decide) (by decide) (fun i => by dsimp only; omega) h

end Sys2Proof.Machine
end

section
/-! THEOREMS. The obligations about the header, the status and endpoint maps, the Discovery datagrams and the end of a DECODE. -/

namespace Sys2Proof.Proofs

open Sys2Proof Sys2Proof.Machine Sys2Proof.Spec

/-- Settles O4: the two fields behind the header fit, or one of them is the first past L; then the pad decides. -/
theorem stSetipEmitsMacAndAddress : Obligations.StSetipEmitsMacAndAddress := by
  intro s
  have hfits (h13 : 13 ≤ s.len) : (header s).andThen (emitAll setipLayout) = .go { s with
      cur := 3, out := s.out ++ (headerItems s ++ setipLayout.map (fieldItem s)) } :=
    header_emitAll_fits (by omega) (by simp [setipLayout]; omega)
  refine ⟨fun hfit => ?_, fun h3 h9 => ?_, fun h9 h13 => ?_, fun h13 hpad => ?_⟩
  · rw [exec_stSetip, hfits (by omega), endInPad_fits _ _ hfit]
    rfl
  · rw [exec_stSetip, header_emitAll_past (f := ⟨3, 6, .mac, .bytes⟩) h3 (by simp [setipLayout, firstPast, h9]),
      endInPad_trap]
  · have hmac : ¬ s.len < 9 := Nat.not_lt.mpr h9
    rw [exec_stSetip, header_emitAll_past (f := ⟨9, 4, .ipv4, .bytes⟩) (by omega)
      (by simp [setipLayout, firstPast, hmac, h13]), endInPad_trap]
  · rw [exec_stSetip, hfits h13, endInPad_short _ _ hpad]

/-- Settles O5: once the run byte is read RF is written (`exec_stStartstop_of_runByte`), whatever the pad does after it. -/
theorem stStartstopWritesTheRunFlags : Obligations.StStartstopWritesTheRunFlags := by
  intro s
  refine ⟨fun hfit => ?_, fun h4 hpad => ?_, fun h3 => ?_⟩
  · rw [exec_stStartstop_of_runByte (by omega)]
    exact endInPad_fits (s := { s with rf := runFlagsOf (u8 s 3) }) _ _ hfit
  · rw [exec_stStartstop_of_runByte h4]
    exact endInPad_short (s := { s with rf := runFlagsOf (u8 s 3) }) _ _ hpad
  · rw [exec_stStartstop, header_emitAll_past (f := ⟨3, 1, .iq_stream, .flag 0⟩) (by omega)
      (by simp [startstopLayout, firstPast, h3]), Run.andThen_trap, endInPad_trap]

/-- Settles O8: the samples are a row of 2-byte fields, which fits or has a first field past L. -/
theorem ep4EmitsItsSamples : Obligations.Ep4EmitsItsSamples := by
  intro s
  refine ⟨fun hfit => ?_, fun hshort => ?_⟩
  · have hin : ∀ f ∈ ep4Layout s.cur, f.off + f.n ≤ s.len := fun f hf => Nat.le_trans (ep4Layout_fits hf) hfit
    rw [exec_ep4Raw, emitAll_fits hin, ep4Layout_map_fieldItem, ← finish_eq_completed]
    rfl
  · rw [exec_ep4Raw, emitAll_past (firstPast_ep4Layout hshort)]
    rfl

/-- Settles O9: in each row the fields before the pad fit, and then the pad decides; only the version string of a Hermes_Lite
can fail before it. -/
theorem discoveryDatagramsEmitTheirFields : Obligations.DiscoveryDatagramsEmitTheirFields := by
  intro s
  refine ⟨fun hfit => ?_, fun h3 hpad => ?_, fun board h11 hpad => ?_, fun h11 h20 => ?_, fun h20 hpad => ?_,
    fun board hfit => ?_, fun hfit => ?_⟩
  · rw [exec_discQuery, emit_discovery_query (by omega), endInPad_fits _ _ hfit]
    rfl
  · rw [exec_discQuery, emit_discovery_query h3, endInPad_short _ _ hpad]
  · rw [exec_discReply, emitAll_replyLayout _ h11, endInPad_short _ _ hpad]
  · rw [exec_discReplyHl, emit_hl_version_string_short h11 h20, endInPad_trap]
  · rw [exec_discReplyHl, emit_hl_version_string h20, endInPad_short _ _ hpad]
  · rw [exec_discReply, emitAll_replyLayout _ (by omega), endInPad_fits _ _ hfit]
    rfl
  · rw [exec_discReplyHl, emit_hl_version_string (by omega), endInPad_fits _ _ hfit]
    rfl

/-- Settles O1 (`header_fits`, `header_short`); the step that starts a DECODE checks the same three bytes in its fetch. -/
theorem headerEmitsProtocolIdAndStatus : Obligations.HeaderEmitsProtocolIdAndStatus := by
  intro s
  refine ⟨header_fits, fun h => ⟨header_short h, fun hphase => step_of_fetch_trap ?_⟩⟩
  rw [fetch_status hphase, need_short (by omega)]
  rfl

/-- Settles O2: the two fields behind the header fit, or one of them is the first past L. -/
theorem stDataEmitsEndpointAndSequence : Obligations.StDataEmitsEndpointAndSequence := by
  intro s
  refine ⟨fun h8 => ?_, fun h3 => ?_, fun h4 h7 => ?_⟩
  · rw [exec, execStData, header_emitAll_fits (by omega) (by simp; omega), Run.andThen_go, Run.outcome_go]
    simp only [List.map_cons, List.map_nil, fieldItem_enum_one, fieldItem_uint_four, ← List.append_assoc]
    rfl
  · rw [exec, execStData, header_emitAll_past (f := ⟨3, 1, .endpoint, .enum⟩) (by omega) (by simp [firstPast, h3])]
    rfl
  · have hep : ¬ s.len < 4 := Nat.not_lt.mpr h4
    have hseq : s.len < 8 := Nat.lt_succ_of_le h7
    rw [exec, execStData, header_emitAll_past (f := ⟨4, 4, .sequence, .uint⟩) (by omega) (by simp [firstPast, hep, hseq])]
    rfl

/-- Settles O3: the header, and the place behind it. -/
theorem stDiscoveryReachesTheDiscoveryDispatch : Obligations.StDiscoveryReachesTheDiscoveryDispatch := by
  intro s h3
  rw [exec, execStDiscovery, header_fits h3]
  rfl

/-- Settles O6: what the header has emitted before ST_UNKNOWN's error is discarded with OUT. -/
theorem unknownSelectorsAreFatal : Obligations.UnknownSelectorsAreFatal := by
  intro s b
  refine ⟨fun h3 => ?_, rfl⟩
  rw [exec, execStUnknown, header_fits h3]
  rfl

/-- Settles O7: each of the two is the entry into a sub-frame of its direction. -/
theorem endpointsEnterTheirFirstSubframe : Obligations.EndpointsEnterTheirFirstSubframe := fun _ => ⟨rfl, rfl⟩

/-- Settles O55: the two sides of the test that `finish_spec` makes. -/
theorem extraBytesReportsTheTrailingBytes : Obligations.ExtraBytesReportsTheTrailingBytes := by
  intro s
  refine ⟨fun hstrict hlt => ?_, fun hnone => ?_⟩
  · rw [finish_spec, if_pos (by simp [hstrict, hlt])]
  · have hoff : ¬ (s.sampled.strictSize && decide (s.cur < s.len)) = true := by
      rcases hnone with hstrict | hle
      · simp [hstrict]
      · simp [Nat.not_lt.mpr hle]
    rw [finish_spec, if_neg hoff, List.append_nil]

end Sys2Proof.Proofs
end

section
/-! SUPPORT. The sync search and the byte behind the marker, in the vocabulary of the statements. -/

namespace Sys2Proof.Machine

open Sys2Proof.Spec

/-! ### The sync search -/

/-- A search that fails has passed no marker and stopped at the first window that passes L (rule R152). -/
theorem syncScan_error {marker : List Byte} {s : State} {o fuel k j : Nat} (h : syncScan marker s o fuel k = .error j)
    (hfuel : s.len < o + k + fuel + 3) :
    k ≤ j ∧ s.len < o + j + 3 ∧ ∀ i, k ≤ i → i < j → o + i + 3 ≤ s.len ∧ bytesAt s (o + i) 3 ≠ marker := by
  induction fuel generalizing k with
  | zero =>
    cases h
    exact ⟨Nat.le_refl _, hfuel, fun i hi hlt => absurd hlt (Nat.not_lt.mpr hi)⟩
  | succ fuel ih =>
    unfold syncScan at h
    split at h
    · next hpast =>
      cases h
      exact ⟨Nat.le_refl _, hpast, fun i hi hlt => absurd hlt (Nat.not_lt.mpr hi)⟩
    · next hfit =>
      split at h
      · cases h
      · next hm =>
        obtain ⟨hkj, hlen, hpassed⟩ := ih h (by omega)
        refine ⟨Nat.le_of_succ_le hkj, hlen, fun i hi hlt => ?_⟩
        rcases Nat.eq_or_lt_of_le hi with rfl | hgt
        · exact ⟨Nat.le_of_not_lt hfit, hm⟩
        · exact hpassed i hgt hlt

/-- The fuel of SYNC_LOCATE covers every window of the datagram. -/
theorem syncFuel_suffices (s : State) (o : Nat) : s.len < o + 0 + (s.len - o + 1) + 3 := by omega

/-- With SYNC_CHECK = 1 the first marker is the base (rule R152). -/
theorem syncLocate_marker {s : State} {o k : Nat} (hcheck : s.sampled.syncCheck = true) (hlen : o + k + 3 ≤ s.len)
    (hm : bytesAt s (o + k) 3 = [0x7F#8, 0x7F#8, 0x7F#8])
    (hfirst : ∀ j < k, bytesAt s (o + j) 3 ≠ [0x7F#8, 0x7F#8, 0x7F#8]) :
    syncLocate Config.literals o s = .go (setBase (o + k) k s) := by
  rw [syncLocate, if_pos hcheck, literals_syncMarker]
  cases hscan : syncScan [0x7F#8, 0x7F#8, 0x7F#8] s o (s.len - o + 1) 0 with
  | ok j =>
    obtain ⟨-, -, hj, hbefore⟩ := syncScan_ok hscan
    have hkj : ¬ k < j := fun hlt => hbefore k (Nat.zero_le k) hlt hm
    have hjk : ¬ j < k := fun hlt => hfirst j hlt hj
    obtain rfl : j = k := by omega
    rfl
  | error j =>
    obtain ⟨-, hpast, hpassed⟩ := syncScan_error hscan (syncFuel_suffices s o)
    exact absurd hm (hpassed k (Nat.zero_le k) (by omega)).2

/-- Without a marker the first window that passes L is Truncated (rule R152). -/
theorem syncLocate_noMarker {s : State} {o : Nat} (hcheck : s.sampled.syncCheck = true)
    (hnone : ∀ j, o + j + 3 ≤ s.len → bytesAt s (o + j) 3 ≠ [0x7F#8, 0x7F#8, 0x7F#8]) :
    syncLocate Config.literals o s = .trap (fatal s (.truncated (o + (s.len - o - 2)) 3)) := by
  rw [syncLocate, if_pos hcheck, literals_syncMarker]
  cases hscan : syncScan [0x7F#8, 0x7F#8, 0x7F#8] s o (s.len - o + 1) 0 with
  | ok j =>
    obtain ⟨-, hlen, hj, -⟩ := syncScan_ok hscan
    exact absurd hj (hnone j hlen)
  | error j =>
    obtain ⟨-, hpast, hpassed⟩ := syncScan_error hscan (syncFuel_suffices s o)
    have hj : j = s.len - o - 2 := by
      cases j with
      | zero => omega
      | succ i =>
        have hfit := (hpassed i (Nat.zero_le i) (Nat.lt_succ_self i)).1
        omega
    rw [hj]
    rfl

/-- The base without a search: the nominal start, once the three sync bytes are there (rules R153 and R155). -/
def nominalStart (s : State) : Run := (need s.cur 3 s).andThen fun s => .go (setBase s.cur 0 s)

theorem nominalStart_fits {s : State} (h : s.cur + 3 ≤ s.len) : nominalStart s = .go (setBase s.cur 0 s) := by
  rw [nominalStart, need_fits h, Run.andThen_go]

theorem nominalStart_short {s : State} (h : s.len < s.cur + 3) : nominalStart s = .trap (fatal s (.truncated s.cur 3)) := by
  rw [nominalStart, need_short h]
  rfl

theorem nominalStart_cases (s : State) :
    nominalStart s = .go (setBase s.cur 0 s) ∨ nominalStart s = .trap (fatal s (.truncated s.cur 3)) :=
  (Nat.lt_or_ge s.len (s.cur + 3)).symm.imp nominalStart_fits nominalStart_short

/-- With SYNC_CHECK = 0 nothing is searched (rule R153). -/
theorem syncLocate_unchecked (l : Literals) {s : State} (hcheck : s.sampled.syncCheck = false) :
    syncLocate l s.cur s = nominalStart s := by
  rw [syncLocate, if_neg (by simp [hcheck]), nominalStart]
  rcases need_cases s.cur 3 s with h | h
  · rw [h]
    rfl
  · rw [h]
    rfl

/-! ### C0 behind the base -/

/-- The fetch of a control record whose base the run `r` locates: C0 selects (rules R151 and R155). -/
def fetchC0 (m : SelMap) (mask : Byte) (r : Run) : Fetched :=
  (r.andThen fun s => (need (s.p + 3) 1 s).andThen fun s => .go (setC0 mask s)).read m fun s => [s.c0]

theorem fetch_h2dControl_eq {s : State} (h : s.phase = .h2dControl) :
    fetch s = fetchC0 .h2dControl 0xFE#8 (syncLocate Config.literals s.cur s) := fetch_h2dControl h

theorem fetch_d2hControl_eq {s : State} (h : s.phase = .d2hControl) :
    fetch s = fetchC0 .d2hControl 0xF8#8 (nominalStart s) := fetch_d2hControl h

/-- A Host→Device sub-frame with SYNC_CHECK = 0 (rule R153). -/
theorem fetch_h2dControl_unchecked {s : State} (h : s.phase = .h2dControl) (hcheck : s.sampled.syncCheck = false) :
    fetch s = fetchC0 .h2dControl 0xFE#8 (nominalStart s) := by
  rw [fetch_h2dControl_eq h, syncLocate_unchecked _ hcheck]

theorem fetchC0_trap (m : SelMap) (mask : Byte) (t : State) : fetchC0 m mask (.trap t) = .trap t := rfl

/-- A base with a byte behind its sync bytes. -/
theorem fetchC0_setBase_fits {s : State} {p : Nat} (m : SelMap) (mask : Byte) (skip : Nat) (h : p + 4 ≤ s.len) :
    fetchC0 m mask (.go (setBase p skip s)) =
      .word m [byteAt s (p + 3)]
        { s with p := p, skip := skip, c0 := byteAt s (p + 3), c0m := byteAt s (p + 3) &&& mask } := by
  rw [fetchC0, Run.andThen_go, need_fits (by exact h)]
  rfl

/-- A base whose sync bytes end the datagram (rules R54 and R151). -/
theorem fetchC0_setBase_short {s : State} {p : Nat} (m : SelMap) (mask : Byte) (skip : Nat) (h : p + 3 = s.len) :
    fetchC0 m mask (.go (setBase p skip s)) = .trap (fatal { s with p := p, skip := skip } (.truncated (p + 3) 1)) := by
  have hshort : s.len < p + 3 + 1 := h ▸ Nat.lt_succ_self _
  rw [fetchC0, Run.andThen_go, need_short (by exact hshort)]
  rfl

/-- A base `k` bytes behind the nominal start stands with SKIP = `k` once C0 is read. -/
theorem fetchC0_base {s u : State} {m m' : SelMap} {mask : Byte} {w : List Byte} {r : Run}
    (hr : (∃ k, r = .go (setBase (s.cur + k) k s)) ∨ ∃ e, r = .trap (raise e s)) (h : fetchC0 m mask r = .word m' w u) :
    u.p = s.cur + u.skip := by
  obtain ⟨k, rfl⟩ | ⟨e, rfl⟩ := hr
  · obtain ⟨hgo, -, -⟩ := Run.read_eq_word.mp h
    rw [Run.andThen_go] at hgo
    obtain ⟨v, hv, hset⟩ := Run.andThen_eq_go.mp hgo
    cases need_eq_go hv
    cases hset
    rfl
  · cases h

/-- A fetch of a control record puts P at SKIP bytes behind the nominal start (rules R152, R153, R155). -/
theorem fetch_control_base {s u : State} {m : SelMap} {w : List Byte} (d : Dir) (hphase : s.phase = phaseOf d.controlMap)
    (h : fetch s = .word m w u) : u.p = s.cur + u.skip := by
  cases d with
  | h2d => exact fetchC0_base (syncLocate_cases _ _ s) ((fetch_h2dControl_eq hphase).symm.trans h)
  | d2h =>
    refine fetchC0_base ?_ ((fetch_d2hControl_eq hphase).symm.trans h)
    exact (nominalStart_cases s).imp (fun hgo => ⟨0, hgo⟩) fun htrap => ⟨_, htrap⟩

end Sys2Proof.Machine
end

section
/-! SUPPORT. The two steps of a sub-frame, and the records and the sample block of this family. -/

namespace Sys2Proof.Machine

open Sys2Proof.Spec

/-! ### The two steps of a sub-frame -/

/-- A place other than the Discovery dispatch determines the map that is read there. -/
theorem phaseOf_injective {m m' : SelMap} (h : phaseOf m = phaseOf m') (hdisc : phaseOf m' ≠ .discovery) : m = m' := by
  cases m <;> cases m' <;> simp_all [phaseOf]

theorem phaseOf_controlMap_ne_discovery (d : Dir) : phaseOf d.controlMap ≠ .discovery := by cases d <;> decide

theorem Dir.controlMap_injective {d d' : Dir} (h : d.controlMap = d'.controlMap) : d = d' := by
  cases d <;> cases d' <;> simp_all [Dir.controlMap]

theorem Dir.sampleMap_injective {d d' : Dir} (h : d.sampleMap = d'.sampleMap) : d = d' := by
  cases d <;> cases d' <;> simp_all [Dir.sampleMap]

theorem Dir.sampleMap_ne_controlMap (d d' : Dir) : d.sampleMap ≠ d'.controlMap := by
  cases d <;> cases d' <;> decide

/-- A control record that does not end the DECODE reaches the sample block of its direction (rules R151 and R155). -/
theorem Ends.of_controlMap {i : Instr} {s t : State} {d : Dir} (h : Ends i s t) (hm : i.selMap = d.controlMap)
    (hbusy : t.phase ≠ .idle) : t.p = s.p ∧ t.skip = s.skip ∧ t.slot = s.slot ∧ t.phase = d.samplePhase := by
  cases h with
  | fatal => exact absurd rfl hbusy
  | toSamples d' hm' =>
    obtain rfl : d' = d := Dir.controlMap_injective (hm'.symm.trans hm)
    exact ⟨rfl, rfl, rfl, rfl⟩
  | toEndpoint hm' | toDiscovery hm' | toSubframe _ hm' =>
    rw [hm] at hm'
    cases d <;> cases hm'
  | subframeEnd d' hm' => exact absurd (hm'.symm.trans hm) (Dir.sampleMap_ne_controlMap d' d)
  | complete _ hc =>
    rw [hm] at hc
    cases d <;> simp [Dir.controlMap] at hc

/-- A sample block is fatal, or ends its sub-frame (rules R157 and R158). -/
theorem Ends.of_sampleMap {i : Instr} {s t : State} {d : Dir} (h : Ends i s t) (hm : i.selMap = d.sampleMap) :
    (∃ e, t.result = some (.fatal e)) ∨ ∃ items, t = afterBlock s d items := by
  cases h with
  | fatal e => exact .inl ⟨e, rfl⟩
  | subframeEnd d' hm' =>
    obtain rfl : d' = d := Dir.sampleMap_injective (hm'.symm.trans hm)
    exact .inr ⟨_, endSubframe_eq_afterBlock _ _ _⟩
  | toEndpoint hm' | toDiscovery hm' | toSubframe _ hm' =>
    rw [hm] at hm'
    cases d <;> cases hm'
  | toSamples d' hm' => exact absurd (hm.symm.trans hm') (Dir.sampleMap_ne_controlMap d d')
  | complete _ hc =>
    rw [hm] at hc
    cases d <;> simp [Dir.sampleMap] at hc

/-- The step at a control record that does not end the DECODE: the base lies SKIP bytes behind the nominal start, and the
sample block of the direction comes next. -/
theorem step_of_control {s t : State} {d : Dir} (hphase : s.phase = phaseOf d.controlMap) (h : step s = .next t)
    (hbusy : t.phase ≠ .idle) : t.p = s.cur + t.skip ∧ t.slot = s.slot ∧ t.phase = d.samplePhase := by
  cases hf : fetch s with
  | idle =>
    cases hf ▸ fetch_fetches s with
    | idle hidle => exact absurd (hphase.symm.trans hidle) (phaseOf_ne_idle _)
  | trap v =>
    cases hf ▸ fetch_fetches s with
    | trap =>
      cases (step_of_fetch_trap hf).symm.trans h
      exact absurd rfl hbusy
  | word m w u =>
    obtain ⟨hm, hframe, rfl⟩ := fetch_word hf
    obtain rfl : m = d.controlMap := phaseOf_injective (hm.symm.trans hphase) (phaseOf_controlMap_ne_discovery d)
    obtain ⟨i, hd⟩ := selectorWord_decodes s u.p d.controlMap
    obtain ⟨hp, hskip, hslot, hnext⟩ :=
      (exec_ends ((step_of_fetch hf hd).symm.trans h)).of_controlMap (decode_selMap hd) hbusy
    have hu : u.slot = s.slot := by rw [hframe]
    exact ⟨by rw [hp, hskip, fetch_control_base d hphase hf], hslot.trans hu, hnext⟩

/-- The place of a sample block is its map's, and nothing is written on the way to it (rule R93). -/
theorem fetch_samples {s : State} {d : Dir} (hphase : s.phase = d.samplePhase) : ∃ w, fetch s = .word d.sampleMap w s := by
  cases d with
  | h2d => exact ⟨_, fetch_h2dSamples hphase⟩
  | d2h => exact ⟨_, fetch_d2hSamples hphase⟩

/-- The step at a sample block. -/
theorem step_of_samples {s t : State} {d : Dir} (hphase : s.phase = d.samplePhase) (h : step s = .next t) :
    (∃ e, t.result = some (.fatal e)) ∨ ∃ items, t = afterBlock s d items := by
  obtain ⟨w, hf⟩ := fetch_samples hphase
  obtain ⟨-, -, rfl⟩ := fetch_word hf
  obtain ⟨i, hd⟩ := selectorWord_decodes s s.p d.sampleMap
  exact (exec_ends ((step_of_fetch hf hd).symm.trans h)).of_sampleMap (decode_selMap hd)

/-- Slot 1 is followed by slot 2 of its direction (rules R114, R115, R157, R158). -/
theorem afterBlock_slot_one {s : State} (d : Dir) (items : List Item) (h : s.slot = .one) :
    afterBlock s d items = { s with
      cur := s.p + 512, dir := d, slot := .two, out := s.out ++ items, phase := phaseOf d.controlMap } := by
  rw [afterBlock, if_pos h]
  cases d <;> rfl

/-- Slot 2 ends the DECODE (rules R127, R128, R157). -/
theorem afterBlock_slot_two {s : State} (d : Dir) (items : List Item) (h : s.slot = .two) :
    afterBlock s d items = completed s (s.p + 512) items := by
  rw [afterBlock, if_neg (by simp [h])]

/-! ### Control records with one kind of field -/

/-- A frequency record that lies in the datagram (H2D_FREQ of rules R183 to R190). -/
theorem h2dRecord_freq {s : State} (c0m : Byte) (mox : Bool) (name : FieldName) (h : s.p + 8 ≤ s.len) :
    h2dRecord c0m mox (freqLayout name) id s =
      .next (afterH2d s c0m.toNat mox [fieldAt s (s.p + 4) 4 name (.uint (u32 s (s.p + 4)))]) := by
  rw [h2dRecord_eq_afterH2d c0m mox _ h (by simp [freqLayout])]
  simp only [freqLayout, List.map_cons, List.map_nil, fieldItem_uint_four]

/-- C0M of a selector with three flag bits below it (rule R78). -/
theorem toNat_append_three_zeros (sel : BitVec 5) : (sel ++ 0#3 : Byte).toNat = 8 * sel.toNat := by
  rw [BitVec.toNat_append, BitVec.toNat_ofNat, Nat.zero_mod, Nat.or_zero, Nat.shiftLeft_eq]
  omega

/-! ### The Host→Device sample block as one row of samples -/

/-- The channels of a Host→Device tuple, in order (rule R301). -/
def h2dChannel : Nat → Nat → FieldName
  | 0, t => .left t
  | 1, t => .right t
  | 2, t => .i t
  | _, t => .q t

/-- The `i`-th sample of a Host→Device block at `b`: four of them make a tuple (rules R300 and R301). -/
def h2dSample (b i : Nat) : FieldSpec := ⟨b + 2 * i, 2, h2dChannel (i % 4) (i / 4), .sint⟩

/-- The sample at place `r` of tuple `t`. -/
theorem h2dSample_of_tuple {r : Nat} (b t : Nat) (hr : r < 4) :
    h2dSample b (4 * t + r) = ⟨b + 8 * t + 2 * r, 2, h2dChannel r t, .sint⟩ := by
  have hmod : (4 * t + r) % 4 = r := by omega
  have hdiv : (4 * t + r) / 4 = t := by omega
  have hoff : b + 2 * (4 * t + r) = b + 8 * t + 2 * r := by omega
  rw [h2dSample, hmod, hdiv, hoff]

/-- Tuple `t` holds the samples `4 t` to `4 t + 3` (rule R301). -/
theorem h2dTuple_eq_samples (b t : Nat) : h2dTuple (b + 8 * t) t = (List.range 4).map fun r => h2dSample b (4 * t + r) := by
  rw [List.map_congr_left fun r hr => h2dSample_of_tuple b t (List.mem_range.mp hr)]
  rfl

/-- The tuples of a block follow one another without a gap. -/
theorem h2dTuples_eq_row (b count : Nat) :
    ((List.range count).flatMap fun t => h2dTuple (b + 8 * t) t) = (List.range (4 * count)).map (h2dSample b) := by
  induction count with
  | zero => rfl
  | succ n ih =>
    rw [List.range_succ, List.flatMap_append, ih, List.flatMap_singleton, h2dTuple_eq_samples, Nat.mul_succ, List.range_add,
      List.map_append, List.map_map]
    rfl

theorem h2dBlock_eq_row (b : Nat) : h2dBlock b = (List.range 252).map (h2dSample b) := h2dTuples_eq_row b 63

theorem exec_sbH2d (s : State) : exec .sbH2d s = sampleBlock Config.literals .h2d h2dBlock s := rfl

/-- The 252 samples lie in the 504 bytes of the block (rule R157). -/
theorem h2dBlock_fits {b : Nat} {f : FieldSpec} (hf : f ∈ h2dBlock b) : f.off + f.n ≤ b + 504 := by
  rw [h2dBlock_eq_row] at hf
  obtain ⟨i, hi, rfl⟩ := List.mem_map.mp hf
  have hlt : i < 252 := List.mem_range.mp hi
  dsimp only [h2dSample]
  omega

/-- The first sample that does not fit (rule R54). -/
theorem firstPast_h2dBlock {len b : Nat} (h : len < b + 504) :
    firstPast len (h2dBlock b) = some (h2dSample b ((len - b) / 2)) := by
  rw [h2dBlock_eq_row]
  exact firstPast_row (w := 2) (by decide) (by decide) (fun i => by dsimp only [h2dSample]; omega) h

/-- The fields of a Host→Device sample block (rules R300 and R301). -/
theorem h2dBlock_map_fieldItem (s : State) (b : Nat) : (h2dBlock b).map (fieldItem s) = h2dSampleItems s b := by
  simp only [h2dBlock, h2dBlockWith, literals_sampleBlockLen, h2dTuple, h2dSampleItems, List.map_flatMap, List.map_cons,
    List.map_nil, fieldItem_sint_two]

end Sys2Proof.Machine
end

section
/-! THEOREMS. The obligations about the sub-frames: the sync search, their extent, three of their records and the Host→Device
sample block. -/

namespace Sys2Proof.Proofs

open Sys2Proof Sys2Proof.Machine Sys2Proof.Spec

/-- Settles O12: the eight records are one record at eight selectors (`h2dRecord_freq`). -/
theorem h2dFrequencyRecordsEmitTheFrequency : Obligations.H2dFrequencyRecordsEmitTheFrequency := by
  intro s mox h
  exact ⟨h2dRecord_freq _ mox _ h, h2dRecord_freq _ mox _ h, h2dRecord_freq _ mox _ h, h2dRecord_freq _ mox _ h,
    h2dRecord_freq _ mox _ h, h2dRecord_freq _ mox _ h, h2dRecord_freq _ mox _ h, h2dRecord_freq _ mox _ h⟩

/-- Settles O19: the layout field by field; rec10 is `rec10_eq`. -/
theorem h2dPwmEmitsMinAndMax : Obligations.H2dPwmEmitsMinAndMax := by
  intro s mox h
  rw [exec, execH2dPwm, h2dRecord_eq_afterH2d _ _ _ h (by simp)]
  simp only [List.map_cons, List.map_nil, fieldItem_rec10]
  rfl

/-- Settles O25: C0M is the selector above three zero bits. -/
theorem d2hUnknownIsOpaque : Obligations.D2hUnknownIsOpaque := by
  intro s sel dot dash ptt h
  rw [exec, execD2hUnknown, d2hRecord_eq_afterD2h _ _ _ _ _ h (by simp), toNat_append_three_zeros]
  rfl

/-- Settles O26: the block is a row of 252 samples, which fits or has a first field past L. -/
theorem sbH2dEmits252SamplesAndEndsTheSubframe : Obligations.SbH2dEmits252SamplesAndEndsTheSubframe := by
  intro s
  refine ⟨fun hfit => ?_, fun hshort => ?_⟩
  · have hin : ∀ f ∈ h2dBlock (s.p + 8), f.off + f.n ≤ s.len := fun f hf => Nat.le_trans (h2dBlock_fits hf) hfit
    rw [exec_sbH2d, sampleBlock_eq_afterBlock _ _ hin, h2dBlock_map_fieldItem]
  · rw [exec_sbH2d, sampleBlock_eq_fatal _ _ _ (firstPast_h2dBlock hshort), h2dSample]

/-- Settles O41: the search finds the first marker or the first window past L; behind a marker C0 is read or missing. -/
theorem syncSearchFindsTheFirstMarker : Obligations.SyncSearchFindsTheFirstMarker := by
  intro s hphase hcheck
  refine ⟨fun k hlen hm hfirst => ?_, fun k hlen hm hfirst => step_of_fetch_trap ?_, fun hnone => step_of_fetch_trap ?_⟩
  · rw [fetch_h2dControl_eq hphase, syncLocate_marker hcheck (Nat.le_of_succ_le hlen) hm hfirst,
      fetchC0_setBase_fits _ _ _ hlen]
  · rw [fetch_h2dControl_eq hphase, syncLocate_marker hcheck (Nat.le_of_eq hlen) hm hfirst, fetchC0_setBase_short _ _ _ hlen]
  · rw [fetch_h2dControl_eq hphase, syncLocate_noMarker hcheck hnone, fetchC0_trap]

/-- Settles O42: both directions locate the base in the same way (`nominalStart`). -/
theorem uncheckedSyncIsTakenAtTheNominalStart : Obligations.UncheckedSyncIsTakenAtTheNominalStart := by
  intro s
  refine ⟨fun hphase hcheck h4 => ?_, fun hphase h4 => ?_, fun hplace => ?_⟩
  · rw [fetch_h2dControl_unchecked hphase hcheck, nominalStart_fits (Nat.le_of_succ_le h4), fetchC0_setBase_fits _ _ _ h4]
  · rw [fetch_d2hControl_eq hphase, nominalStart_fits (Nat.le_of_succ_le h4), fetchC0_setBase_fits _ _ _ h4]
  · obtain ⟨m, mask, hfetch⟩ : ∃ m mask, fetch s = fetchC0 m mask (nominalStart s) :=
      hplace.elim (fun ⟨hphase, hcheck⟩ => ⟨_, _, fetch_h2dControl_unchecked hphase hcheck⟩)
        fun hphase => ⟨_, _, fetch_d2hControl_eq hphase⟩
    refine ⟨fun h3 => step_of_fetch_trap ?_, fun h3 => step_of_fetch_trap ?_⟩
    · rw [hfetch, nominalStart_short h3, fetchC0_trap]
    · rw [hfetch, nominalStart_fits (Nat.le_of_eq h3.symm), fetchC0_setBase_short _ _ _ h3.symm]

/-- Settles O43: a control record is followed by the sample block of its direction (`step_of_control`), and that by the next
slot or the end (`step_of_samples`). -/
theorem everySubframeEnds512BytesAfterItsSync : Obligations.EverySubframeEnds512BytesAfterItsSync := by
  intro s t u hplace hst hbusy htu hok
  obtain ⟨d, hphase⟩ : ∃ d : Dir, s.phase = phaseOf d.controlMap := hplace.elim (fun h => ⟨.h2d, h⟩) fun h => ⟨.d2h, h⟩
  obtain ⟨hp, hslot, hnext⟩ := step_of_control hphase hst hbusy
  obtain ⟨e, he⟩ | ⟨items, rfl⟩ := step_of_samples hnext htu
  · exact absurd he (hok e)
  · rw [← hslot]
    cases hone : t.slot with
    | one =>
      rw [afterBlock_slot_one d items hone]
      exact ⟨hp, rfl, fun _ => ⟨rfl, hphase.symm⟩, nofun⟩
    | two =>
      rw [afterBlock_slot_two d items hone]
      exact ⟨hp, rfl, nofun, fun _ => ⟨rfl, rfl⟩⟩

end Sys2Proof.Proofs
end

section
/-! SUPPORT. The layouts that come from FIELD_TABLES (rule R201): one field of a table in the vocabulary of the statements, and
that the fields of an admitted table lie in the payload of their record. -/

namespace Sys2Proof.Machine

open Sys2Proof.Spec

/-! ### One entry of a table -/

section

variable (s : State) (q byte : Nat) (name : FieldName)

theorem fieldItem_boolEntry (bit : Nat) :
    fieldItem s ((boolEntry byte bit name).spec q) = flagAt s (q + (byte - 1)) bit name := rfl

theorem fieldItem_uintEntry (hi lo : Nat) :
    fieldItem s ((uintEntry byte hi lo name).spec q) = bitsAt s (q + (byte - 1)) lo (hi + 1 - lo) name := rfl

end

/-- The field lies in the payload C1..C4 that starts at `q` (rule R201). -/
def FieldSpec.InPayload (q : Nat) (f : FieldSpec) : Prop := q ≤ f.off ∧ f.off + f.n ≤ q + 4

/-- An entry that fits names no payload byte past the last it may take. -/
theorem FieldEntry.byte_le_of_fits {first last : Nat} {e : FieldEntry} (h : e.fits first last = true) : e.byte ≤ last := by
  simp only [FieldEntry.fits, Bool.and_eq_true, decide_eq_true_eq] at h
  obtain ⟨⟨⟨⟨-, hlast⟩, -⟩, -⟩, -⟩ := h
  exact hlast

/-- Entries that name no byte past C4 make fields of the payload. -/
theorem map_spec_inPayload {first last : Nat} {es : List FieldEntry} (q : Nat) (hes : ∀ e ∈ es, e.fits first last = true)
    (hlast : last ≤ 4) : ∀ f ∈ es.map (FieldEntry.spec q), f.InPayload q := by
  intro f hf
  obtain ⟨e, he, rfl⟩ := List.mem_map.mp hf
  have hbyte : e.byte ≤ last := FieldEntry.byte_le_of_fits (hes e he)
  simp only [FieldSpec.InPayload, FieldEntry.spec]
  omega

/-! ### The layouts of an admitted table -/

/-- The bytes that rule R201 gives to each table. -/
theorem FieldTables.fits_of_admitted {t : FieldTables} (h : t.admitted = true) :
    (∀ e ∈ t.driveFilters, e.fits 2 4 = true) ∧ (∀ e ∈ t.preampMicAdc1, e.fits 1 4 = true) ∧
      (∀ e ∈ t.adc23Keyer, e.fits 1 4 = true) ∧ ∀ e ∈ t.adcAssignC3, e.fits 3 3 = true := by
  simp only [FieldTables.admitted, Bool.and_eq_true, List.all_eq_true] at h
  obtain ⟨⟨⟨⟨⟨⟨⟨hdrive, -⟩, hpreamp⟩, -⟩, hkeyer⟩, -⟩, hassign⟩, -⟩ := h
  exact ⟨fun e he => (hdrive e he).1, hpreamp, hkeyer, hassign⟩

theorem defaultParams_fieldTables : defaultParams.fieldTables = fieldTables := rfl

theorem fieldTables_admitted : fieldTables.admitted = true := by decide

section

variable {t : FieldTables} (ht : t.admitted = true) (q : Nat)

include ht

theorem driveFiltersLayout_inPayload : ∀ f ∈ driveFiltersLayout t q, f.InPayload q := by
  obtain ⟨hdrive, -, -, -⟩ := FieldTables.fits_of_admitted ht
  refine List.forall_mem_cons.mpr ⟨?_, map_spec_inPayload q hdrive (by decide)⟩
  simp [FieldSpec.InPayload]

theorem preampMicAdc1Layout_inPayload : ∀ f ∈ preampMicAdc1Layout t q, f.InPayload q := by
  obtain ⟨-, hpreamp, -, -⟩ := FieldTables.fits_of_admitted ht
  exact map_spec_inPayload q hpreamp (by decide)

theorem adc23KeyerLayout_inPayload : ∀ f ∈ adc23KeyerLayout t q, f.InPayload q := by
  obtain ⟨-, -, hkeyer, -⟩ := FieldTables.fits_of_admitted ht
  exact map_spec_inPayload q hkeyer (by decide)

theorem adcAssignLayout_inPayload : ∀ f ∈ adcAssignLayout t q, f.InPayload q := by
  obtain ⟨-, -, -, hassign⟩ := FieldTables.fits_of_admitted ht
  refine List.forall_mem_append.mpr ⟨?_, map_spec_inPayload q hassign (by decide)⟩
  simp [FieldSpec.InPayload]

end

/-! ### The records -/

/-- A record whose fields lie in its payload, in a datagram that holds the record (rules R151 and R201). -/
theorem h2dRecord_of_inPayload {s : State} (c0m : Byte) (mox : Bool) (layout : Nat → List FieldSpec) (h : s.p + 8 ≤ s.len)
    (hl : ∀ f ∈ layout (s.p + 4), f.InPayload (s.p + 4)) :
    h2dRecord c0m mox layout id s = .next (afterH2d s c0m.toNat mox ((layout (s.p + 4)).map (fieldItem s))) :=
  h2dRecord_eq_afterH2d c0m mox layout h fun f hf => (hl f hf).2

/-- A record whose payload is one opaque field (rules R194, R195, R200). -/
theorem h2dRecord_opaque {s : State} (c0m : Byte) (mox : Bool) (name : FieldName) (h : s.p + 8 ≤ s.len) :
    h2dRecord c0m mox (fun q => [⟨q, 4, name, .bytes⟩]) id s =
      .next (afterH2d s c0m.toNat mox [bytesFieldAt s (s.p + 4) 4 name]) := by
  rw [h2dRecord_of_inPayload c0m mox _ h (by simp [FieldSpec.InPayload])]
  simp only [List.map_cons, List.map_nil, fieldItem_bytes]

/-- C0M of a selector with the MOX bit below it (rule R78). -/
theorem toNat_append_one_zero (sel : BitVec 7) : (sel ++ 0#1 : Byte).toNat = 2 * sel.toNat := by
  rw [BitVec.toNat_append, BitVec.toNat_ofNat, Nat.zero_mod, Nat.or_zero, Nat.shiftLeft_eq]
  omega

end Sys2Proof.Machine
end

section
/-! THEOREMS. The obligations about FIELD_TABLES, the Host→Device control records that take their layouts from it, and the
opaque records. -/

namespace Sys2Proof.Proofs

open Sys2Proof Sys2Proof.Machine Sys2Proof.Spec

/-- Settles O21: the default tables are evaluated; an admitted table's entries name no byte past C4. -/
theorem admittedFieldTablesStayInsideThePayload : Obligations.AdmittedFieldTablesStayInsideThePayload := by
  refine ⟨fieldTables_admitted, fun t q ht => ?_⟩
  have hpayload : ∀ f ∈ driveFiltersLayout t q ++ preampMicAdc1Layout t q ++ adc23KeyerLayout t q ++ adcAssignLayout t q,
      f.InPayload q := by
    simp only [List.forall_mem_append]
    exact ⟨⟨⟨driveFiltersLayout_inPayload ht q, preampMicAdc1Layout_inPayload ht q⟩, adc23KeyerLayout_inPayload ht q⟩,
      adcAssignLayout_inPayload ht q⟩
  exact hpayload

/-- Settles O13: the drive level, then the default table entry by entry. -/
theorem h2dDriveFiltersEmitsDriveLevelAndBooleans : Obligations.H2dDriveFiltersEmitsDriveLevelAndBooleans := by
  intro s mox h
  rw [exec, execH2dDriveFilters, execH2dDriveFiltersWith, defaultParams_fieldTables,
    h2dRecord_of_inPayload _ _ _ h (driveFiltersLayout_inPayload fieldTables_admitted _)]
  simp only [driveFiltersLayout, fieldTables, driveFiltersDefault, List.map_cons, List.map_nil,
    fieldItem_uint_one, fieldItem_boolEntry]
  rfl

/-- Settles O14: the default table entry by entry. -/
theorem h2dPreampMicAdc1EmitsItsFields : Obligations.H2dPreampMicAdc1EmitsItsFields := by
  intro s mox h
  rw [exec, execH2dPreampMicAdc1, execH2dPreampMicAdc1With, defaultParams_fieldTables,
    h2dRecord_of_inPayload _ _ _ h (preampMicAdc1Layout_inPayload fieldTables_admitted _)]
  simp only [preampMicAdc1Layout, fieldTables, preampMicAdc1Default, List.map_cons, List.map_nil,
    fieldItem_boolEntry, fieldItem_uintEntry]
  rfl

/-- Settles O15: the default table entry by entry. -/
theorem h2dAdc23KeyerEmitsItsFields : Obligations.H2dAdc23KeyerEmitsItsFields := by
  intro s mox h
  rw [exec, execH2dAdc23Keyer, execH2dAdc23KeyerWith, defaultParams_fieldTables,
    h2dRecord_of_inPayload _ _ _ h (adc23KeyerLayout_inPayload fieldTables_admitted _)]
  simp only [adc23KeyerLayout, fieldTables, adc23KeyerDefault, List.map_cons, List.map_nil,
    fieldItem_boolEntry, fieldItem_uintEntry]
  rfl

/-- Settles O16: the three rows are one record of one opaque field (`h2dRecord_opaque`); C0M of the last is its selector above
the MOX bit. -/
theorem h2dReservedRecordsAreOpaque : Obligations.H2dReservedRecordsAreOpaque := by
  intro s mox h
  refine ⟨h2dRecord_opaque _ mox _ h, h2dRecord_opaque _ mox _ h, fun sel => ?_⟩
  rw [exec, execH2dUnknown, h2dRecord_opaque _ mox _ h, toNat_append_one_zero]

/-- Settles O17: the seven fixed assignments, then the default table of C3 entry by entry. -/
theorem h2dAdcAssignEmitsItsFields : Obligations.H2dAdcAssignEmitsItsFields := by
  intro s mox h
  rw [exec, execH2dAdcAssign, execH2dAdcAssignWith, defaultParams_fieldTables,
    h2dRecord_of_inPayload _ _ _ h (adcAssignLayout_inPayload fieldTables_admitted _)]
  simp only [adcAssignLayout, fieldTables, adcAssignC3Default, List.map_append, List.map_cons, List.map_nil,
    fieldItem_bits, fieldItem_boolEntry, fieldItem_uintEntry]
  rfl

end Sys2Proof.Proofs
end

section
/-! SUPPORT. The conversions at the source's literals as one product of the code (spec/44_numeric.md), and a field that holds
a converted code. -/

namespace Sys2Proof.Machine

open Sys2Proof.Spec

/-! ### The conversions at the source's literals -/

/-- VOLTS at ADC_VREF = 3.3 and ADC_FULL = 4095 (rule R271). -/
theorem volts_eq (c : Nat) : volts c = (c : Rat) * 11 / 13650 := by
  rw [volts, voltsWith, literals_adcVref, literals_adcFull, Nat.cast_ofNat]
  ring

/-- BRIDGE_W at BRIDGE_DEN = 0.09 (rule R272). -/
theorem bridgeW_eq (c : Nat) : bridgeW c = (c : Rat) ^ 2 * 121 / 16769025 :=
  calc bridgeW c = volts c * volts c / (9 / 100) := rfl
    _ = (c : Rat) ^ 2 * 121 / 16769025 := by rw [volts_eq]; ring

/-- REV_W at REV_OFFSET = 10 (rule R273). -/
theorem revW_eq (c : Nat) : revW c = ((c - 10 : Nat) : Rat) ^ 2 * 121 / 16769025 := bridgeW_eq (c - 10)

/-- SUPPLY_V at DIV_RATIO = 5.52 / 0.82 (rule R275). -/
theorem supplyV_eq (c : Nat) : supplyV c = (c : Rat) * 506 / 93275 :=
  calc supplyV c = volts c * ((47 / 10 + 82 / 100) / (82 / 100)) := rfl
    _ = (c : Rat) * 506 / 93275 := by rw [volts_eq]; ring

/-! ### A converted code -/

/-- The code is the big-endian value of the field's two bytes (rules R242 to R244). -/
theorem fieldItem_conversion (s : State) (a : Nat) (name : FieldName) (f : Nat → Rat) :
    fieldItem s ⟨a, 2, name, .conversion f⟩ = fieldAt s a 2 name (.real (f (u16 s a))) :=
  congrArg (fun c => fieldAt s a 2 name (.real (f c))) (beNat_bytesAt_two s a)

/-! ### The records -/

/-- A record whose payload is two 2-byte fields, in a datagram that holds the record (rules R242 to R244). -/
theorem d2hRecord_twoFields {s : State} (c0m : Byte) (dot dash ptt : Bool) (name1 name2 : FieldName) (k1 k2 : Kind)
    (h : s.p + 8 ≤ s.len) :
    d2hRecord c0m dot dash ptt (fun q => [⟨q, 2, name1, k1⟩, ⟨q + 2, 2, name2, k2⟩]) s =
      .next (afterD2h s c0m.toNat dot dash ptt
        [fieldItem s ⟨s.p + 4, 2, name1, k1⟩, fieldItem s ⟨s.p + 6, 2, name2, k2⟩]) :=
  d2hRecord_eq_afterD2h c0m dot dash ptt _ h (by simp)

/-- The four units of D2H_ADC_OVERFLOW lie in the payload C1..C4 (rule R245). -/
theorem overflowLayout_inPayload (q : Nat) : ∀ f ∈ overflowLayout q, f.InPayload q := by
  intro f hf
  obtain ⟨k, hk, hunit⟩ := List.mem_flatMap.mp hf
  have hk4 : k < 4 := List.mem_range.mp hk
  simp only [List.mem_cons, List.not_mem_nil, or_false] at hunit
  obtain rfl | rfl := hunit <;> simp only [FieldSpec.InPayload] <;> omega

/-- The fields of one unit: its overflow flag and its 7-bit version (rule R245). -/
def unitItems (s : State) (q k : Nat) : List Item :=
  [flagAt s (q + k) 0 (.adc_unit_overflow (k + 1)), bitsAt s (q + k) 1 7 (.adc_unit_version (k + 1))]

/-- The record's fields are those of its four units in order (rule R245). -/
theorem overflowLayout_items (s : State) (q : Nat) :
    (overflowLayout q).map (fieldItem s) = (List.range 4).flatMap (unitItems s q) := by
  rw [overflowLayout, List.map_flatMap]
  simp only [List.map_cons, List.map_nil, fieldItem_flag, fieldItem_bits]
  rfl

end Sys2Proof.Machine
end

section
/-! THEOREMS. The obligations about the Device→Host measurements and the overflow flags. -/

namespace Sys2Proof.Proofs

open Sys2Proof Sys2Proof.Machine Sys2Proof.Spec

/-- Settles O23: each record has two fields (`d2hRecord_twoFields`); its conversions at the source's literals are `bridgeW`,
`revW` and `supplyV`. -/
theorem d2hMeasurementsEmitConvertedCodes : Obligations.D2hMeasurementsEmitConvertedCodes := by
  intro s dot dash ptt h
  refine ⟨?fwdPower, ?revPower, ?supply⟩
  case fwdPower =>
    rw [exec, execD2hFwdPower, execD2hFwdPowerWith, d2hRecord_twoFields _ _ _ _ _ _ _ _ h, fieldItem_conversion,
      fieldItem_conversion, ← bridgeW_eq]
    rfl
  case revPower =>
    rw [exec, execD2hRevPower, execD2hRevPowerWith, d2hRecord_twoFields _ _ _ _ _ _ _ _ h, fieldItem_conversion,
      fieldItem_uint_two, ← revW_eq]
    rfl
  case supply =>
    rw [exec, execD2hSupply, execD2hSupplyWith, d2hRecord_twoFields _ _ _ _ _ _ _ _ h, fieldItem_uint_two,
      fieldItem_conversion, ← supplyV_eq]
    rfl

/-- Settles O24: the layout is four units of one payload byte each (`overflowLayout_items`). -/
theorem d2hAdcOverflowEmitsFourUnits : Obligations.D2hAdcOverflowEmitsFourUnits := by
  intro s dot dash ptt h
  rw [exec, execD2hAdcOverflow, d2hRecord_eq_afterD2h _ _ _ _ _ h fun f hf => (overflowLayout_inPayload _ f hf).2,
    overflowLayout_items]
  rfl

end Sys2Proof.Proofs
end

section
/-! SUPPORT. The order of the conversions, and the forward-power function built from three free sequences: its low codes, its
six lines, and the free values that an admissible function comes from (spec/44_numeric.md rules R271 to R275). -/

namespace Sys2Proof.Machine

open Sys2Proof.Spec

/-! ### The conversions are increasing (rule R278 b) -/

theorem volts_strictMono : StrictMono volts := by
  intro c d h
  have hcd : (c : Rat) < d := Nat.cast_lt.mpr h
  rw [volts_eq, volts_eq]
  linarith

theorem bridgeW_strictMono : StrictMono bridgeW := by
  intro c d h
  have hsq : (c : Rat) ^ 2 < (d : Rat) ^ 2 := by exact_mod_cast Nat.pow_lt_pow_left h two_ne_zero
  rw [bridgeW_eq, bridgeW_eq]
  linarith

theorem supplyV_strictMono : StrictMono supplyV := by
  intro c d h
  have hcd : (c : Rat) < d := Nat.cast_lt.mpr h
  rw [supplyV_eq, supplyV_eq]
  linarith

/-- REV_W is BRIDGE_W of the code above REV_OFFSET (rule R273). -/
theorem revW_eq_bridgeW (c : Nat) : revW c = bridgeW (c - 10) := rfl

theorem revW_mono : Monotone revW := fun _ _ h => bridgeW_strictMono.monotone (Nat.sub_le_sub_right h 10)

theorem revW_eq_zero {c : Nat} (h : c ≤ 10) : revW c = 0 := by
  rw [revW_eq_bridgeW, Nat.sub_eq_zero_of_le h, bridgeW_eq]
  norm_num

theorem revW_lt {c d : Nat} (hc : 10 ≤ c) (h : c < d) : revW c < revW d :=
  bridgeW_strictMono (Nat.sub_lt_sub_right hc h)

/-! ### The free sequences with their signs dropped -/

theorem magnitude_eq_abs (x : Rat) : magnitude x = |x| := by
  rw [magnitude]
  split_ifs with h
  · exact (abs_of_neg h).symm
  · exact (abs_of_nonneg (not_lt.mp h)).symm

theorem magnitude_nonneg (x : Rat) : 0 ≤ magnitude x := magnitude_eq_abs x ▸ abs_nonneg x

theorem magnitude_of_nonneg {x : Rat} (h : 0 ≤ x) : magnitude x = x := (magnitude_eq_abs x).trans (abs_of_nonneg h)

theorem fwdSlopeOf_nonneg (slope : Nat → Rat) : ∀ k, 0 ≤ fwdSlopeOf slope k
  | 0 => magnitude_nonneg _
  | k + 1 => by
    have h := magnitude_nonneg (slope (k + 1))
    rw [fwdSlopeOf]
    split_ifs
    · linarith
    · exact h

theorem fwdSlopeOf_ne_succ (slope : Nat → Rat) (k : Nat) : fwdSlopeOf slope k ≠ fwdSlopeOf slope (k + 1) := by
  rw [fwdSlopeOf]
  split_ifs with h
  · rw [h]
    exact (lt_add_one _).ne
  · exact Ne.symm h

/-- Slopes that already meet rule R274 are taken as they are. -/
theorem fwdSlopeOf_eq_self {m : Nat → Rat} {n : Nat} (hm : ∀ j ≤ n, 0 ≤ m j) (hne : ∀ j < n, m j ≠ m (j + 1)) :
    ∀ j ≤ n, fwdSlopeOf m j = m j
  | 0, h => magnitude_of_nonneg (hm 0 h)
  | j + 1, h => by
    rw [fwdSlopeOf, magnitude_of_nonneg (hm _ h), fwdSlopeOf_eq_self hm hne j (Nat.le_of_succ_le h),
      if_neg (hne j h).symm]

/-- The first value of a function and its increments: the sequence whose running sum it is. -/
def incrementsOf (f : Nat → Rat) : Nat → Rat
  | 0 => f 0
  | c + 1 => f (c + 1) - f c

theorem fwdLowValue_incrementsOf {f : Nat → Rat} {n : Nat} (h0 : 0 ≤ f 0) (hmono : ∀ c < n, f c ≤ f (c + 1)) :
    ∀ c ≤ n, fwdLowValue (incrementsOf f) c = f c
  | 0, _ => magnitude_of_nonneg h0
  | c + 1, h => by
    rw [fwdLowValue, fwdLowValue_incrementsOf h0 hmono c (Nat.le_of_succ_le h), incrementsOf,
      magnitude_of_nonneg (sub_nonneg.mpr (hmono c h)), add_sub_cancel]

/-! ### The six closed segments (rule R274, constraints 1 and 2) -/

/-- The code `c` lies on the closed segment `j`. -/
def InSegment (j c : Nat) : Prop := j ≤ 5 ∧ (segmentOf j).1 ≤ c ∧ c ≤ (segmentOf j).2

theorem breakpointOf_eq_segmentOf : ∀ j, breakpointOf Config.literals.fwdBreakpoints j = (segmentOf j).1
  | 0 | 1 | 2 | 3 | 4 => rfl
  | _ + 5 => rfl

/-- The breakpoint that opens segment `j + 1` closes segment `j`. -/
theorem segmentOf_succ_fst {j : Nat} (h : j < 5) : (segmentOf (j + 1)).1 = (segmentOf j).2 := by
  interval_cases j <;> rfl

theorem segmentOf_bounds (j : Nat) :
    98 ≤ (segmentOf j).1 ∧ (segmentOf j).1 < (segmentOf j).2 ∧ (segmentOf j).2 ≤ 4095 := by
  unfold segmentOf
  split <;> decide

theorem InSegment.bounds {j c : Nat} (h : InSegment j c) : 98 ≤ c ∧ c ≤ 4095 := by
  obtain ⟨-, hfirst, hlast⟩ := h
  obtain ⟨hlow, -, hhigh⟩ := segmentOf_bounds j
  exact ⟨hlow.trans hfirst, hlast.trans hhigh⟩

theorem inSegment_first {j : Nat} (h : j ≤ 5) : InSegment j (segmentOf j).1 :=
  ⟨h, le_rfl, (segmentOf_bounds j).2.1.le⟩

/-- The segment that serves a code, at the source's breakpoints. -/
theorem fwdSegment_eq (c : Nat) : fwdSegment Config.literals.fwdBreakpoints c =
    if c ≤ 874 then 0 else if c ≤ 1380 then 1 else if c ≤ 2095 then 2 else if c ≤ 2615 then 3
    else if c ≤ 3038 then 4 else 5 := rfl

/-- The segment that serves a code holds it, and the code before it too: at a breakpoint the lower segment serves. -/
theorem inSegment_fwdSegment {c d : Nat} (hcd : c = d ∨ c + 1 = d) (hc : 98 ≤ c) (hd : d ≤ 4095) :
    InSegment (fwdSegment Config.literals.fwdBreakpoints d) c := by
  rw [InSegment, fwdSegment_eq]
  split_ifs <;> simp only [segmentOf] <;> omega

/-- The segment that serves a code of segment `j` is `j`, or the one before it when the code opens `j`. -/
theorem fwdSegment_of_inSegment {j c : Nat} (h : InSegment j c) :
    fwdSegment Config.literals.fwdBreakpoints c = j ∨
      fwdSegment Config.literals.fwdBreakpoints c + 1 = j ∧ c = (segmentOf j).1 := by
  obtain ⟨hj, hfirst, hlast⟩ := h
  rw [fwdSegment_eq]
  interval_cases j <;> simp only [segmentOf] at hfirst hlast ⊢ <;> split_ifs <;> omega

/-- `f` is affine on each closed segment, with slopes `m` and constants `k` (rule R274, constraint 2). -/
def AffineOnSegments (f m k : Nat → Rat) : Prop := ∀ j c, InSegment j c → f c = m j * (c : Rat) + k j

theorem affineOnSegments_iff {f m k : Nat → Rat} : AffineOnSegments f m k ↔
    ∀ j ≤ 5, ∀ c, (segmentOf j).1 ≤ c → c ≤ (segmentOf j).2 → f c = m j * (c : Rat) + k j :=
  ⟨fun h j hj c hfirst hlast => h j c ⟨hj, hfirst, hlast⟩, fun h j c ⟨hj, hfirst, hlast⟩ => h j hj c hfirst hlast⟩

/-! ### The lines of a free forward-power function -/

/-- The line of segment `j` for the free sequences `low` and `slope`: through the value at the breakpoint that opens it. -/
def fwdLine (low slope : Nat → Rat) (j c : Nat) : Rat :=
  fwdBase Config.literals.fwdBreakpoints low slope j + fwdSlopeOf slope j * ((c : Rat) - ((segmentOf j).1 : Rat))

section

variable (low slope high : Nat → Rat)

theorem fwdLine_first (j : Nat) :
    fwdLine low slope j (segmentOf j).1 = fwdBase Config.literals.fwdBreakpoints low slope j := by
  rw [fwdLine, sub_self, mul_zero, add_zero]

/-- Neighbouring lines meet at their breakpoint (rule R274, constraint 3). -/
theorem fwdLine_succ_of_first {j c : Nat} (h : c = (segmentOf (j + 1)).1) :
    fwdLine low slope (j + 1) c = fwdLine low slope j c := by
  rw [h, fwdLine_first, fwdBase, breakpointOf_eq_segmentOf, breakpointOf_eq_segmentOf, fwdLine]

theorem fwdLine_le_succ (j c : Nat) : fwdLine low slope j c ≤ fwdLine low slope j (c + 1) := by
  have hslope := fwdSlopeOf_nonneg slope j
  simp only [fwdLine]
  push_cast
  linarith only [hslope]

/-- FWD_POWER_W by the range of the code: the running sum, the line of the segment that serves the code, or the free value. -/
theorem fwdPowerFrom_eq (c : Nat) :
    fwdPowerFrom low slope high c =
      if c < 98 then fwdLowValue low c
      else if c ≤ 4095 then fwdLine low slope (fwdSegment Config.literals.fwdBreakpoints c) c
      else high c := by
  rw [fwdPowerFrom, fwdPowerFromWith, breakpointOf_eq_segmentOf]
  rfl

theorem fwdPowerFrom_of_inSegment {j c : Nat} (h : InSegment j c) :
    fwdPowerFrom low slope high c = fwdLine low slope j c := by
  obtain ⟨hlow, hhigh⟩ := h.bounds
  rw [fwdPowerFrom_eq, if_neg (not_lt.mpr hlow), if_pos hhigh]
  obtain rfl | ⟨rfl, hfirst⟩ := fwdSegment_of_inSegment h
  · rfl
  · exact (fwdLine_succ_of_first low slope hfirst).symm

theorem fwdPowerFrom_of_le {c : Nat} (h : c ≤ 98) : fwdPowerFrom low slope high c = fwdLowValue low c := by
  obtain hlt | rfl := h.lt_or_eq
  · rw [fwdPowerFrom_eq, if_pos hlt]
  · exact (fwdPowerFrom_of_inSegment low slope high (inSegment_first (Nat.zero_le 5))).trans (fwdLine_first low slope 0)

theorem fwdPowerFrom_le_succ {c : Nat} (h : c < 4095) :
    fwdPowerFrom low slope high c ≤ fwdPowerFrom low slope high (c + 1) := by
  obtain hlow | hseg := Nat.lt_or_ge c 98
  · rw [fwdPowerFrom_of_le _ _ _ hlow.le, fwdPowerFrom_of_le _ _ _ hlow, fwdLowValue]
    exact le_add_of_nonneg_right (magnitude_nonneg _)
  · rw [fwdPowerFrom_of_inSegment _ _ _ (inSegment_fwdSegment (.inr rfl) hseg h),
      fwdPowerFrom_of_inSegment _ _ _ (inSegment_fwdSegment (.inl rfl) (Nat.le_succ_of_le hseg) h)]
    exact fwdLine_le_succ low slope _ c

theorem fwdPowerFrom_nonneg : ∀ c ≤ 4095, 0 ≤ fwdPowerFrom low slope high c
  | 0, _ => by
    rw [fwdPowerFrom_of_le _ _ _ (Nat.zero_le 98), fwdLowValue]
    exact magnitude_nonneg _
  | c + 1, h => (fwdPowerFrom_nonneg c (Nat.le_of_succ_le h)).trans (fwdPowerFrom_le_succ low slope high h)

/-- The constant of segment `j` is its line's value at code 0. -/
theorem fwdPowerFrom_affine :
    AffineOnSegments (fwdPowerFrom low slope high) (fwdSlopeOf slope) (fun j => fwdLine low slope j 0) := by
  intro j c h
  rw [fwdPowerFrom_of_inSegment low slope high h]
  simp only [fwdLine, Nat.cast_zero]
  ring

/-- Whatever the free sequences are, the function they give meets rule R274. -/
theorem fwdPowerFrom_admissible : ForwardPowerAdmissible (fwdPowerFrom low slope high) :=
  ⟨⟨fwdSlopeOf slope, fun j => fwdLine low slope j 0, fun j _ => fwdSlopeOf_ne_succ slope j,
      affineOnSegments_iff.mp (fwdPowerFrom_affine low slope high)⟩,
    fun _ => fwdPowerFrom_le_succ low slope high, fwdPowerFrom_nonneg low slope high⟩

end

/-! ### The free sequences of an admissible function -/

section

variable {f m k : Nat → Rat}

/-- On its segment the function is the line of slope `m j` through its value at the segment's first code. -/
theorem eq_add_slope_mul_of_affine (haff : AffineOnSegments f m k) {j c : Nat} (h : InSegment j c) :
    f c = f (segmentOf j).1 + m j * ((c : Rat) - ((segmentOf j).1 : Rat)) := by
  rw [haff j c h, haff j _ (inSegment_first h.1)]
  ring

/-- The slope of a non-decreasing function is its increment from the segment's first code to the next. -/
theorem slope_nonneg_of_affine (haff : AffineOnSegments f m k) (hmono : ∀ c < 4095, f c ≤ f (c + 1)) {j : Nat}
    (hj : j ≤ 5) : 0 ≤ m j := by
  obtain ⟨-, hlt, hlast⟩ := segmentOf_bounds j
  have hnext := eq_add_slope_mul_of_affine haff ⟨hj, Nat.le_succ _, hlt⟩
  have hle := hmono _ (hlt.trans_le hlast)
  push_cast at hnext
  linarith

/-- The values at the breakpoints are the function's own. -/
theorem fwdBase_incrementsOf (haff : AffineOnSegments f m k)
    (hlow : ∀ c ≤ 98, fwdLowValue (incrementsOf f) c = f c) (hslope : ∀ j ≤ 5, fwdSlopeOf m j = m j) :
    ∀ j ≤ 5, fwdBase Config.literals.fwdBreakpoints (incrementsOf f) m j = f (segmentOf j).1
  | 0, _ => hlow 98 le_rfl
  | j + 1, h => by
    have hj : j ≤ 5 := Nat.le_of_succ_le h
    have hend : InSegment j (segmentOf (j + 1)).1 := by
      rw [segmentOf_succ_fst h]
      exact ⟨hj, (segmentOf_bounds j).2.1.le, le_rfl⟩
    rw [fwdBase, fwdBase_incrementsOf haff hlow hslope j hj, hslope j hj, breakpointOf_eq_segmentOf,
      breakpointOf_eq_segmentOf, ← eq_add_slope_mul_of_affine haff hend]

/-- An admissible function is the one given by its increments, its slopes and itself. -/
theorem fwdPowerFrom_incrementsOf (hne : ∀ j < 5, m j ≠ m (j + 1)) (haff : AffineOnSegments f m k)
    (hmono : ∀ c < 4095, f c ≤ f (c + 1)) (h0 : 0 ≤ f 0) (c : Nat) : fwdPowerFrom (incrementsOf f) m f c = f c := by
  have hlow : ∀ c ≤ 98, fwdLowValue (incrementsOf f) c = f c :=
    fwdLowValue_incrementsOf h0 fun c hc => hmono c (hc.trans (by decide))
  have hslope : ∀ j ≤ 5, fwdSlopeOf m j = m j := fwdSlopeOf_eq_self (fun _ => slope_nonneg_of_affine haff hmono) hne
  rw [fwdPowerFrom_eq]
  split_ifs with hc98 hc4095
  · exact hlow c hc98.le
  · have hseg := inSegment_fwdSegment (.inl rfl) (not_lt.mp hc98) hc4095
    rw [fwdLine, fwdBase_incrementsOf haff hlow hslope _ hseg.1, hslope _ hseg.1, ← eq_add_slope_mul_of_affine haff hseg]
  · rfl

end

end Sys2Proof.Machine
end

section
/-! THEOREMS. The obligations about the numeric conversions. -/

namespace Sys2Proof.Proofs

open Sys2Proof Sys2Proof.Machine Sys2Proof.Spec

/-- Settles O32: VOLTS and SUPPLY_V are linear in the code and BRIDGE_W its square; REV_W is BRIDGE_W of the code less 10. -/
theorem conversionsFollowTheirFormulas : Obligations.ConversionsFollowTheirFormulas :=
  ⟨fun c => ⟨volts_eq c, bridgeW_eq c, revW_eq c, supplyV_eq c⟩,
    fun _ _ h => ⟨volts_strictMono h, bridgeW_strictMono h, supplyV_strictMono h, revW_mono h.le, revW_eq_zero,
      fun hc => revW_lt hc h⟩⟩

/-- Settles O33: FWD_POWER_W is the function of three free sequences, and each such function is admissible. -/
theorem forwardPowerMeetsItsConstraints : Obligations.ForwardPowerMeetsItsConstraints :=
  ⟨fwdPowerFrom_admissible _ _ _, fwdPowerFrom_admissible⟩

/-- Settles O34: the free values are the function's increments, its slopes and its own values above 4095. -/
theorem everyAdmissibleForwardPowerIsAllowed : Obligations.EveryAdmissibleForwardPowerIsAllowed := by
  rintro f ⟨⟨m, k, hne, haff⟩, hmono, hnonneg⟩
  exact ⟨incrementsOf f, m, f, fwdPowerFrom_incrementsOf hne (affineOnSegments_iff.mpr haff) hmono (hnonneg 0 (Nat.zero_le _))⟩

end Sys2Proof.Proofs
end

section
/-! SUPPORT. Layouts that follow one another field by field, and the tuples and the pad of a Device→Host sample block
(spec/45_sample_blocks.md rules R300 to R307). -/

namespace Sys2Proof.Machine

open Sys2Proof.Spec

/-! ### Layouts without gap or overlap -/

theorem tiles_cons_at (b len : Nat) (name : FieldName) (kind : Kind) (fs : List FieldSpec) :
    tiles b (⟨b, len, name, kind⟩ :: fs) = tiles (b + len) fs :=
  if_pos rfl

/-- A layout goes on where the one before it ends. -/
theorem tiles_append {m : Nat} (gs : List FieldSpec) :
    ∀ {b : Nat} {fs : List FieldSpec}, tiles b fs = some m → tiles b (fs ++ gs) = tiles m gs
  | _, [], h => by
    rw [Option.some.inj h]
    rfl
  | b, f :: fs, h => by
    rw [tiles] at h
    rw [List.cons_append, tiles]
    split_ifs at h ⊢
    exact tiles_append gs h

/-- Parts that each lead from one boundary to the next lead together from the first boundary to the last. -/
theorem tiles_flatMap_range {bound : Nat → Nat} {part : Nat → List FieldSpec}
    (hpart : ∀ i, tiles (bound i) (part i) = some (bound (i + 1))) (count : Nat) :
    tiles (bound 0) ((List.range count).flatMap part) = some (bound count) := by
  induction count with
  | zero => rfl
  | succ n ih => rw [List.range_succ, List.flatMap_append, tiles_append _ ih, List.flatMap_singleton, hpart]

/-! ### The Host→Device layout -/

/-- A tuple is 8 bytes (rule R301). -/
theorem tiles_h2dTuple (a t : Nat) : tiles a (h2dTuple a t) = some (a + 8) := by
  rw [h2dTuple, tiles_cons_at, tiles_cons_at, tiles_cons_at, tiles_cons_at]
  rfl

/-- 63 tuples of 8 bytes (rule R300). -/
theorem tiles_h2dBlock (b : Nat) : tiles b (h2dBlock b) = some (b + 504) :=
  tiles_flatMap_range (bound := fun t => b + 8 * t) (fun t => tiles_h2dTuple (b + 8 * t) t) 63

/-! ### The tuples and the pad of a Device→Host layout -/

/-- The first `count` tuples of a block at `b` (rule R305). -/
def d2hTuples (n b count : Nat) : List FieldSpec :=
  (List.range count).flatMap fun t => d2hTuple n (b + t * (6 * n + 2)) t

theorem d2hBlock_eq_tuples_pad (n b : Nat) : d2hBlock n b = d2hTuples n b (504 / (6 * n + 2)) ++ d2hPad 504 n b := rfl

theorem d2hTuples_zero (n b : Nat) : d2hTuples n b 0 = [] := rfl

theorem d2hTuples_succ (n b count : Nat) :
    d2hTuples n b (count + 1) = d2hTuples n b count ++ d2hTuple n (b + count * (6 * n + 2)) count := by
  rw [d2hTuples, List.range_succ, List.flatMap_append, List.flatMap_singleton]
  rfl

theorem d2hTuples_one (n b : Nat) : d2hTuples n b 1 = d2hTuple n b 0 := by
  rw [d2hTuples_succ, d2hTuples_zero, List.nil_append, Nat.zero_mul, Nat.add_zero]

theorem d2hTuples_two (n b : Nat) : d2hTuples n b 2 = d2hTuple n b 0 ++ d2hTuple n (b + (6 * n + 2)) 1 := by
  rw [d2hTuples_succ, d2hTuples_one, Nat.one_mul]

theorem d2hTuples_begins_with {k count : Nat} (n b : Nat) (h : k ≤ count) :
    ∃ rest, d2hTuples n b count = d2hTuples n b k ++ rest := by
  obtain ⟨m, rfl⟩ := Nat.exists_eq_add_of_le h
  rw [d2hTuples, List.range_add, List.flatMap_append]
  exact ⟨_, rfl⟩

/-- A block begins with `k` tuples where `k` strides lie within its 504 bytes (rule R305). -/
theorem d2hBlock_begins_with_tuples {n k : Nat} (b : Nat) (h : k * (6 * n + 2) ≤ 504) :
    ∃ rest, d2hBlock n b = d2hTuples n b k ++ rest := by
  have hcount : k ≤ 504 / (6 * n + 2) := (Nat.le_div_iff_mul_le (Nat.succ_pos _)).mpr h
  obtain ⟨rest, hrest⟩ := d2hTuples_begins_with n b hcount
  exact ⟨rest ++ d2hPad 504 n b, by rw [d2hBlock_eq_tuples_pad, hrest, List.append_assoc]⟩

/-- A block whose tuples leave `pad` bytes over, less than a stride, ends in a pad of that length (rules R305 and R307). -/
theorem d2hBlock_eq_of_pad {n count pad : Nat} (b : Nat) (h504 : count * (6 * n + 2) + pad = 504) (hpos : 0 < pad)
    (hlt : pad < 6 * n + 2) :
    d2hBlock n b = d2hTuples n b count ++ [⟨b + count * (6 * n + 2), pad, .pad, .bytes⟩] := by
  obtain ⟨hdiv, hmod⟩ : 504 / (6 * n + 2) = count ∧ 504 % (6 * n + 2) = pad := by
    rw [Nat.div_mod_unique (Nat.succ_pos _)]
    exact ⟨by rw [Nat.mul_comm, Nat.add_comm, h504], hlt⟩
  rw [d2hBlock_eq_tuples_pad, d2hPad, hdiv, hmod, if_pos hpos]

/-- A tuple is 6 bytes for each receiver and 2 for the microphone (rule R305). -/
theorem tiles_d2hTuple (n a t : Nat) : tiles a (d2hTuple n a t) = some (a + (6 * n + 2)) := by
  have hpair (r : Nat) (i q : FieldName) :
      tiles (a + 6 * r) [⟨a + 6 * r, 3, i, .sint⟩, ⟨a + 6 * r + 3, 3, q, .sint⟩] = some (a + 6 * (r + 1)) := by
    rw [tiles_cons_at, tiles_cons_at]
    rfl
  rw [d2hTuple, tiles_append (m := a + 6 * n), tiles_cons_at]
  · rfl
  · exact tiles_flatMap_range (bound := fun r => a + 6 * r) (fun r => hpair r _ _) n

theorem tiles_d2hTuples (n b count : Nat) : tiles b (d2hTuples n b count) = some (b + count * (6 * n + 2)) := by
  induction count with
  | zero => rw [Nat.zero_mul]; rfl
  | succ k ih => rw [d2hTuples_succ, tiles_append _ ih, tiles_d2hTuple, Nat.succ_mul k, Nat.add_assoc]

/-- The pad, where there is one, takes the bytes that the tuples leave over (rules R305 and R306). -/
theorem tiles_d2hPad (len n b : Nat) :
    tiles (b + len / (6 * n + 2) * (6 * n + 2)) (d2hPad len n b) = some (b + len) := by
  have hdiv : len / (6 * n + 2) * (6 * n + 2) + len % (6 * n + 2) = len := Nat.div_add_mod' len (6 * n + 2)
  rw [d2hPad]
  split_ifs with hpad
  · rw [tiles_cons_at, Nat.add_assoc, hdiv]
    rfl
  · rw [Nat.eq_zero_of_not_pos hpad, Nat.add_zero] at hdiv
    rw [hdiv]
    rfl

/-- The tuples and the pad cover the block, for every receiver count (rule R306). -/
theorem tiles_d2hBlock (n b : Nat) : tiles b (d2hBlock n b) = some (b + 504) := by
  rw [d2hBlock_eq_tuples_pad, tiles_append _ (tiles_d2hTuples n b _), tiles_d2hPad]

end Sys2Proof.Machine
end

section
/-! THEOREMS. The obligations about the extent and the shape of the sample layouts. -/

namespace Sys2Proof.Proofs

open Sys2Proof Sys2Proof.Machine Sys2Proof.Spec

/-- Settles O29: tuples tile their stride, a row of them tiles its length, and the pad takes what is left. -/
theorem everySampleLayoutTilesTheBlock : Obligations.EverySampleLayoutTilesTheBlock :=
  fun b => ⟨tiles_h2dBlock b, fun n _ => tiles_d2hBlock n b⟩

/-- Settles O30: the number of strides that lie within 504 bytes is 0 from 84 receivers, 1 from 42, and at least 2 below. -/
theorem degenerateStridesHaveOnlyPad : Obligations.DegenerateStridesHaveOnlyPad := by
  intro n b
  refine ⟨fun h84 => ?_, fun h42 h83 => ?_, fun _ h83 => ?_, fun _ h41 => ?_⟩
  · rw [d2hBlock_eq_of_pad (count := 0) (pad := 504) b (by omega) (by omega) (by omega), d2hTuples_zero, Nat.zero_mul]
    rfl
  · rw [d2hBlock_eq_of_pad (count := 1) (pad := 504 - (6 * n + 2)) b (by omega) (by omega) (by omega), d2hTuples_one,
      Nat.one_mul]
  · rw [← d2hTuples_one]
    exact d2hBlock_begins_with_tuples b (by omega)
  · rw [← d2hTuples_two]
    exact d2hBlock_begins_with_tuples b (by omega)

end Sys2Proof.Proofs
end

section
/-! SUPPORT. An idle step, whichever transaction is pending. -/

namespace Sys2Proof.Machine

theorem step_of_idle {s : State} (hidle : s.phase = .idle) : step s = nextRequest Config.literals s := by
  rw [step_eq, fetch_idle hidle]

/-- With nothing pending the block stays idle (rule R346, log 15). -/
theorem step_of_nothing_pending {s : State} (hidle : s.phase = .idle) (hp : s.pending = []) : step s = .next s := by
  rw [step_of_idle hidle, nextRequest, hp]

/-- Otherwise the oldest pending transaction starts, and is pending no more. -/
theorem step_of_pending {s : State} {r : Request} {rest : List Request} (hidle : s.phase = .idle)
    (hp : s.pending = r :: rest) : step s = start r { s with pending := rest } := by
  rw [step_of_idle hidle, nextRequest, hp, start]

theorem start_reset {s : State} (hidle : s.phase = .idle) : start .reset s = .next (resetTransaction s) :=
  startWith_idle _ _ hidle

theorem start_configure {s : State} (tg : Toggles) (hidle : s.phase = .idle) :
    start (.configure tg) s = .next { s with inputs := tg } :=
  startWith_idle _ _ hidle

end Sys2Proof.Machine
end

section
/-! THEOREMS. The obligation about RESET, the configuration inputs and the idle step. -/

namespace Sys2Proof.Proofs

open Sys2Proof Sys2Proof.Machine Sys2Proof.Spec

/-- Settles O57: the idle step starts the pending transaction (`step_of_pending`), and each of the two is one record update. -/
theorem resetAndConfigureWriteOnlyTheirState : Obligations.ResetAndConfigureWriteOnlyTheirState := by
  intro s hidle
  refine ⟨step_of_nothing_pending hidle, fun rest => ⟨fun hp => ?reset, fun tg hp => ?configure⟩⟩
  case reset => exact (step_of_pending hidle hp).trans (start_reset hidle)
  case configure => exact (step_of_pending hidle hp).trans (start_configure tg hidle)

end Sys2Proof.Proofs
end
